-- ==== Sys2Proof/Word.lean ====
section
/-! DEFINITION. The two widths of the hardware and their plainest arithmetic (00_scope.md R7, R8). -/

namespace Sys2Proof

/-- A `u8` of the spec. -/
abbrev Byte := BitVec 8

/-- A `u16` of the spec. -/
abbrev Word := BitVec 16

/-- `{hi, lo} = hi * 256 + lo` (R8). -/
def joinBytes (hi lo : Byte) : Word := hi ++ lo

/-- `w[15:8]` (R8). -/
def hiByte (w : Word) : Byte := w.extractLsb' 8 8

/-- `w[7:0]` (R8). -/
def loByte (w : Word) : Byte := w.extractLsb' 0 8

end Sys2Proof
end

