-- ==== Sys2Proof/Syntax.lean ====
section
/-! DEFINITION. The syntax: the operand tables of 30_encoding.md (R92 to R97) as types, and `Instr`, one constructor for
each row of spec/opcode_table.json. The table's rows have their registers, condition, bit number and RST target
resolved, so only immediates are arguments. The constructors of one family are reached by their operands through the
functions `Instr.ldRegReg`, `Instr.aluReg`, … of Decode.lean. -/

namespace Sys2Proof

/-- The seven 8-bit registers (R20); the register entries of table `r8` (R92). -/
inductive Reg8 where
  | b | c | d | e | h | l | a
deriving DecidableEq, Repr

/-- An entry of table `r8` (R92): a register, or the byte in memory at `HL` (value 6). -/
inductive Loc8 where
  | reg (r : Reg8)
  | memHl
deriving DecidableEq, Repr

/-- Table `r16` (R93). -/
inductive Pair16 where
  | bc | de | hl | sp
deriving DecidableEq, Repr

/-- Table `r16stk` (R94). -/
inductive StkPair where
  | bc | de | hl | af
deriving DecidableEq, Repr

/-- Table `cc` (R95). -/
inductive Cond where
  | nz | z | nc | c
deriving DecidableEq, Repr

/-- Table `alu` (R96). -/
inductive AluOp where
  | add | adc | sub | sbc | and | xor | or | cp
deriving DecidableEq, Repr

/-- Table `rot` (R97). -/
inductive RotOp where
  | rlc | rrc | rl | rr | sla | sra | swap | srl
deriving DecidableEq, Repr

/-- The four rotates of `A` (R99, z = 7, y = 0 to 3; R139). -/
inductive AccRot where
  | rlca | rrca | rla | rra
deriving DecidableEq, Repr

/-- The four register-indirect forms of `LD A,(..)` and `LD (..),A` (R99, z = 2). -/
inductive Indirect where
  | bc | de | hlInc | hlDec
deriving DecidableEq, Repr

/-- One constructor per row of spec/opcode_table.json, 256 of table `base`, 256 of table `cb`; those with an
immediate stand first, each group in the table's order.
`prefixCb` is the row of the prefix byte 0xCB, which "is not an instruction by itself" (R376). -/
inductive Instr where
  /-- `LD BC,nn`: 0x01; R231. -/
  | ldBcNn (nn : Word)
  /-- `LD B,n`: 0x06; R202. -/
  | ldBN (n : Byte)
  /-- `LD (nn),SP`: 0x08; R232. -/
  | ldMemNnSp (nn : Word)
  /-- `LD C,n`: 0x0E; R202. -/
  | ldCN (n : Byte)
  /-- `LD DE,nn`: 0x11; R231. -/
  | ldDeNn (nn : Word)
  /-- `LD D,n`: 0x16; R202. -/
  | ldDN (n : Byte)
  /-- `JR e`: 0x18; R354. -/
  | jrE (e : Byte)
  /-- `LD E,n`: 0x1E; R202. -/
  | ldEN (n : Byte)
  /-- `JR NZ,e`: 0x20; R355. -/
  | jrNzE (e : Byte)
  /-- `LD HL,nn`: 0x21; R231. -/
  | ldHlNn (nn : Word)
  /-- `LD H,n`: 0x26; R202. -/
  | ldHN (n : Byte)
  /-- `JR Z,e`: 0x28; R355. -/
  | jrZE (e : Byte)
  /-- `LD L,n`: 0x2E; R202. -/
  | ldLN (n : Byte)
  /-- `JR NC,e`: 0x30; R355. -/
  | jrNcE (e : Byte)
  /-- `LD SP,nn`: 0x31; R231. -/
  | ldSpNn (nn : Word)
  /-- `LD (HL),n`: 0x36; R205. -/
  | ldMemHlN (n : Byte)
  /-- `JR C,e`: 0x38; R355. -/
  | jrCE (e : Byte)
  /-- `LD A,n`: 0x3E; R202. -/
  | ldAN (n : Byte)
  /-- `JP NZ,nn`: 0xC2; R352. -/
  | jpNzNn (nn : Word)
  /-- `JP nn`: 0xC3; R351. -/
  | jpNn (nn : Word)
  /-- `CALL NZ,nn`: 0xC4; R357. -/
  | callNzNn (nn : Word)
  /-- `ADD A,n`: 0xC6; R253. -/
  | addAN (n : Byte)
  /-- `JP Z,nn`: 0xCA; R352. -/
  | jpZNn (nn : Word)
  /-- `CALL Z,nn`: 0xCC; R357. -/
  | callZNn (nn : Word)
  /-- `CALL nn`: 0xCD; R356. -/
  | callNn (nn : Word)
  /-- `ADC A,n`: 0xCE; R256. -/
  | adcAN (n : Byte)
  /-- `JP NC,nn`: 0xD2; R352. -/
  | jpNcNn (nn : Word)
  /-- `CALL NC,nn`: 0xD4; R357. -/
  | callNcNn (nn : Word)
  /-- `SUB A,n`: 0xD6; R259. -/
  | subAN (n : Byte)
  /-- `JP C,nn`: 0xDA; R352. -/
  | jpCNn (nn : Word)
  /-- `CALL C,nn`: 0xDC; R357. -/
  | callCNn (nn : Word)
  /-- `SBC A,n`: 0xDE; R262. -/
  | sbcAN (n : Byte)
  /-- `LDH (n),A`: 0xE0; R215. -/
  | ldhMemNA (n : Byte)
  /-- `AND A,n`: 0xE6; R265. -/
  | andAN (n : Byte)
  /-- `ADD SP,e`: 0xE8; R304. -/
  | addSpE (e : Byte)
  /-- `LD (nn),A`: 0xEA; R211. -/
  | ldMemNnA (nn : Word)
  /-- `XOR A,n`: 0xEE; R268. -/
  | xorAN (n : Byte)
  /-- `LDH A,(n)`: 0xF0; R214. -/
  | ldhAMemN (n : Byte)
  /-- `OR A,n`: 0xF6; R271. -/
  | orAN (n : Byte)
  /-- `LD HL,SP+e`: 0xF8; R237. -/
  | ldHlSpE (e : Byte)
  /-- `LD A,(nn)`: 0xFA; R210. -/
  | ldAMemNn (nn : Word)
  /-- `CP A,n`: 0xFE; R274. -/
  | cpAN (n : Byte)
  /-- `NOP`: 0x00; R371. -/
  | nop
  /-- `LD (BC),A`: 0x02; R208. -/
  | ldMemBcA
  /-- `INC BC`: 0x03; R302. -/
  | incBc
  /-- `INC B`: 0x04; R275. -/
  | incB
  /-- `DEC B`: 0x05; R277. -/
  | decB
  /-- `RLCA`: 0x07; R311. -/
  | rlca
  /-- `ADD HL,BC`: 0x09; R301. -/
  | addHlBc
  /-- `LD A,(BC)`: 0x0A; R206. -/
  | ldAMemBc
  /-- `DEC BC`: 0x0B; R303. -/
  | decBc
  /-- `INC C`: 0x0C; R275. -/
  | incC
  /-- `DEC C`: 0x0D; R277. -/
  | decC
  /-- `RRCA`: 0x0F; R312. -/
  | rrca
  /-- `STOP`: 0x10; R373. -/
  | stop
  /-- `LD (DE),A`: 0x12; R209. -/
  | ldMemDeA
  /-- `INC DE`: 0x13; R302. -/
  | incDe
  /-- `INC D`: 0x14; R275. -/
  | incD
  /-- `DEC D`: 0x15; R277. -/
  | decD
  /-- `RLA`: 0x17; R313. -/
  | rla
  /-- `ADD HL,DE`: 0x19; R301. -/
  | addHlDe
  /-- `LD A,(DE)`: 0x1A; R207. -/
  | ldAMemDe
  /-- `DEC DE`: 0x1B; R303. -/
  | decDe
  /-- `INC E`: 0x1C; R275. -/
  | incE
  /-- `DEC E`: 0x1D; R277. -/
  | decE
  /-- `RRA`: 0x1F; R314. -/
  | rra
  /-- `LD (HL+),A`: 0x22; R219. -/
  | ldMemHlIncA
  /-- `INC HL`: 0x23; R302. -/
  | incHl
  /-- `INC H`: 0x24; R275. -/
  | incH
  /-- `DEC H`: 0x25; R277. -/
  | decH
  /-- `DAA`: 0x27; R279. -/
  | daa
  /-- `ADD HL,HL`: 0x29; R301. -/
  | addHlHl
  /-- `LD A,(HL+)`: 0x2A; R218. -/
  | ldAMemHlInc
  /-- `DEC HL`: 0x2B; R303. -/
  | decHl
  /-- `INC L`: 0x2C; R275. -/
  | incL
  /-- `DEC L`: 0x2D; R277. -/
  | decL
  /-- `CPL`: 0x2F; R280. -/
  | cpl
  /-- `LD (HL-),A`: 0x32; R217. -/
  | ldMemHlDecA
  /-- `INC SP`: 0x33; R302. -/
  | incSp
  /-- `INC (HL)`: 0x34; R276. -/
  | incMemHl
  /-- `DEC (HL)`: 0x35; R278. -/
  | decMemHl
  /-- `SCF`: 0x37; R281. -/
  | scf
  /-- `ADD HL,SP`: 0x39; R301. -/
  | addHlSp
  /-- `LD A,(HL-)`: 0x3A; R216. -/
  | ldAMemHlDec
  /-- `DEC SP`: 0x3B; R303. -/
  | decSp
  /-- `INC A`: 0x3C; R275. -/
  | incA
  /-- `DEC A`: 0x3D; R277. -/
  | decA
  /-- `CCF`: 0x3F; R282. -/
  | ccf
  /-- `LD B,B`: 0x40; R201. -/
  | ldBB
  /-- `LD B,C`: 0x41; R201. -/
  | ldBC
  /-- `LD B,D`: 0x42; R201. -/
  | ldBD
  /-- `LD B,E`: 0x43; R201. -/
  | ldBE
  /-- `LD B,H`: 0x44; R201. -/
  | ldBH
  /-- `LD B,L`: 0x45; R201. -/
  | ldBL
  /-- `LD B,(HL)`: 0x46; R203. -/
  | ldBMemHl
  /-- `LD B,A`: 0x47; R201. -/
  | ldBA
  /-- `LD C,B`: 0x48; R201. -/
  | ldCB
  /-- `LD C,C`: 0x49; R201. -/
  | ldCC
  /-- `LD C,D`: 0x4A; R201. -/
  | ldCD
  /-- `LD C,E`: 0x4B; R201. -/
  | ldCE
  /-- `LD C,H`: 0x4C; R201. -/
  | ldCH
  /-- `LD C,L`: 0x4D; R201. -/
  | ldCL
  /-- `LD C,(HL)`: 0x4E; R203. -/
  | ldCMemHl
  /-- `LD C,A`: 0x4F; R201. -/
  | ldCA
  /-- `LD D,B`: 0x50; R201. -/
  | ldDB
  /-- `LD D,C`: 0x51; R201. -/
  | ldDC
  /-- `LD D,D`: 0x52; R201. -/
  | ldDD
  /-- `LD D,E`: 0x53; R201. -/
  | ldDE
  /-- `LD D,H`: 0x54; R201. -/
  | ldDH
  /-- `LD D,L`: 0x55; R201. -/
  | ldDL
  /-- `LD D,(HL)`: 0x56; R203. -/
  | ldDMemHl
  /-- `LD D,A`: 0x57; R201. -/
  | ldDA
  /-- `LD E,B`: 0x58; R201. -/
  | ldEB
  /-- `LD E,C`: 0x59; R201. -/
  | ldEC
  /-- `LD E,D`: 0x5A; R201. -/
  | ldED
  /-- `LD E,E`: 0x5B; R201. -/
  | ldEE
  /-- `LD E,H`: 0x5C; R201. -/
  | ldEH
  /-- `LD E,L`: 0x5D; R201. -/
  | ldEL
  /-- `LD E,(HL)`: 0x5E; R203. -/
  | ldEMemHl
  /-- `LD E,A`: 0x5F; R201. -/
  | ldEA
  /-- `LD H,B`: 0x60; R201. -/
  | ldHB
  /-- `LD H,C`: 0x61; R201. -/
  | ldHC
  /-- `LD H,D`: 0x62; R201. -/
  | ldHD
  /-- `LD H,E`: 0x63; R201. -/
  | ldHE
  /-- `LD H,H`: 0x64; R201. -/
  | ldHH
  /-- `LD H,L`: 0x65; R201. -/
  | ldHL
  /-- `LD H,(HL)`: 0x66; R203. -/
  | ldHMemHl
  /-- `LD H,A`: 0x67; R201. -/
  | ldHA
  /-- `LD L,B`: 0x68; R201. -/
  | ldLB
  /-- `LD L,C`: 0x69; R201. -/
  | ldLC
  /-- `LD L,D`: 0x6A; R201. -/
  | ldLD
  /-- `LD L,E`: 0x6B; R201. -/
  | ldLE
  /-- `LD L,H`: 0x6C; R201. -/
  | ldLH
  /-- `LD L,L`: 0x6D; R201. -/
  | ldLL
  /-- `LD L,(HL)`: 0x6E; R203. -/
  | ldLMemHl
  /-- `LD L,A`: 0x6F; R201. -/
  | ldLA
  /-- `LD (HL),B`: 0x70; R204. -/
  | ldMemHlB
  /-- `LD (HL),C`: 0x71; R204. -/
  | ldMemHlC
  /-- `LD (HL),D`: 0x72; R204. -/
  | ldMemHlD
  /-- `LD (HL),E`: 0x73; R204. -/
  | ldMemHlE
  /-- `LD (HL),H`: 0x74; R204. -/
  | ldMemHlH
  /-- `LD (HL),L`: 0x75; R204. -/
  | ldMemHlL
  /-- `HALT`: 0x76; R372. -/
  | halt
  /-- `LD (HL),A`: 0x77; R204. -/
  | ldMemHlA
  /-- `LD A,B`: 0x78; R201. -/
  | ldAB
  /-- `LD A,C`: 0x79; R201. -/
  | ldAC
  /-- `LD A,D`: 0x7A; R201. -/
  | ldAD
  /-- `LD A,E`: 0x7B; R201. -/
  | ldAE
  /-- `LD A,H`: 0x7C; R201. -/
  | ldAH
  /-- `LD A,L`: 0x7D; R201. -/
  | ldAL
  /-- `LD A,(HL)`: 0x7E; R203. -/
  | ldAMemHl
  /-- `LD A,A`: 0x7F; R201. -/
  | ldAA
  /-- `ADD A,B`: 0x80; R251. -/
  | addAB
  /-- `ADD A,C`: 0x81; R251. -/
  | addAC
  /-- `ADD A,D`: 0x82; R251. -/
  | addAD
  /-- `ADD A,E`: 0x83; R251. -/
  | addAE
  /-- `ADD A,H`: 0x84; R251. -/
  | addAH
  /-- `ADD A,L`: 0x85; R251. -/
  | addAL
  /-- `ADD A,(HL)`: 0x86; R252. -/
  | addAMemHl
  /-- `ADD A,A`: 0x87; R251. -/
  | addAA
  /-- `ADC A,B`: 0x88; R254. -/
  | adcAB
  /-- `ADC A,C`: 0x89; R254. -/
  | adcAC
  /-- `ADC A,D`: 0x8A; R254. -/
  | adcAD
  /-- `ADC A,E`: 0x8B; R254. -/
  | adcAE
  /-- `ADC A,H`: 0x8C; R254. -/
  | adcAH
  /-- `ADC A,L`: 0x8D; R254. -/
  | adcAL
  /-- `ADC A,(HL)`: 0x8E; R255. -/
  | adcAMemHl
  /-- `ADC A,A`: 0x8F; R254. -/
  | adcAA
  /-- `SUB A,B`: 0x90; R257. -/
  | subAB
  /-- `SUB A,C`: 0x91; R257. -/
  | subAC
  /-- `SUB A,D`: 0x92; R257. -/
  | subAD
  /-- `SUB A,E`: 0x93; R257. -/
  | subAE
  /-- `SUB A,H`: 0x94; R257. -/
  | subAH
  /-- `SUB A,L`: 0x95; R257. -/
  | subAL
  /-- `SUB A,(HL)`: 0x96; R258. -/
  | subAMemHl
  /-- `SUB A,A`: 0x97; R257. -/
  | subAA
  /-- `SBC A,B`: 0x98; R260. -/
  | sbcAB
  /-- `SBC A,C`: 0x99; R260. -/
  | sbcAC
  /-- `SBC A,D`: 0x9A; R260. -/
  | sbcAD
  /-- `SBC A,E`: 0x9B; R260. -/
  | sbcAE
  /-- `SBC A,H`: 0x9C; R260. -/
  | sbcAH
  /-- `SBC A,L`: 0x9D; R260. -/
  | sbcAL
  /-- `SBC A,(HL)`: 0x9E; R261. -/
  | sbcAMemHl
  /-- `SBC A,A`: 0x9F; R260. -/
  | sbcAA
  /-- `AND A,B`: 0xA0; R263. -/
  | andAB
  /-- `AND A,C`: 0xA1; R263. -/
  | andAC
  /-- `AND A,D`: 0xA2; R263. -/
  | andAD
  /-- `AND A,E`: 0xA3; R263. -/
  | andAE
  /-- `AND A,H`: 0xA4; R263. -/
  | andAH
  /-- `AND A,L`: 0xA5; R263. -/
  | andAL
  /-- `AND A,(HL)`: 0xA6; R264. -/
  | andAMemHl
  /-- `AND A,A`: 0xA7; R263. -/
  | andAA
  /-- `XOR A,B`: 0xA8; R266. -/
  | xorAB
  /-- `XOR A,C`: 0xA9; R266. -/
  | xorAC
  /-- `XOR A,D`: 0xAA; R266. -/
  | xorAD
  /-- `XOR A,E`: 0xAB; R266. -/
  | xorAE
  /-- `XOR A,H`: 0xAC; R266. -/
  | xorAH
  /-- `XOR A,L`: 0xAD; R266. -/
  | xorAL
  /-- `XOR A,(HL)`: 0xAE; R267. -/
  | xorAMemHl
  /-- `XOR A,A`: 0xAF; R266. -/
  | xorAA
  /-- `OR A,B`: 0xB0; R269. -/
  | orAB
  /-- `OR A,C`: 0xB1; R269. -/
  | orAC
  /-- `OR A,D`: 0xB2; R269. -/
  | orAD
  /-- `OR A,E`: 0xB3; R269. -/
  | orAE
  /-- `OR A,H`: 0xB4; R269. -/
  | orAH
  /-- `OR A,L`: 0xB5; R269. -/
  | orAL
  /-- `OR A,(HL)`: 0xB6; R270. -/
  | orAMemHl
  /-- `OR A,A`: 0xB7; R269. -/
  | orAA
  /-- `CP A,B`: 0xB8; R272. -/
  | cpAB
  /-- `CP A,C`: 0xB9; R272. -/
  | cpAC
  /-- `CP A,D`: 0xBA; R272. -/
  | cpAD
  /-- `CP A,E`: 0xBB; R272. -/
  | cpAE
  /-- `CP A,H`: 0xBC; R272. -/
  | cpAH
  /-- `CP A,L`: 0xBD; R272. -/
  | cpAL
  /-- `CP A,(HL)`: 0xBE; R273. -/
  | cpAMemHl
  /-- `CP A,A`: 0xBF; R272. -/
  | cpAA
  /-- `RET NZ`: 0xC0; R359. -/
  | retNz
  /-- `POP BC`: 0xC1; R235. -/
  | popBc
  /-- `PUSH BC`: 0xC5; R234. -/
  | pushBc
  /-- `RST 0x00`: 0xC7; R361. -/
  | rst00
  /-- `RET Z`: 0xC8; R359. -/
  | retZ
  /-- `RET`: 0xC9; R358. -/
  | ret
  /-- `PREFIX CB`: 0xCB; R376. -/
  | prefixCb
  /-- `RST 0x08`: 0xCF; R361. -/
  | rst08
  /-- `RET NC`: 0xD0; R359. -/
  | retNc
  /-- `POP DE`: 0xD1; R235. -/
  | popDe
  /-- `(undefined 0xD3)`: 0xD3; R377. -/
  | undefinedD3
  /-- `PUSH DE`: 0xD5; R234. -/
  | pushDe
  /-- `RST 0x10`: 0xD7; R361. -/
  | rst10
  /-- `RET C`: 0xD8; R359. -/
  | retC
  /-- `RETI`: 0xD9; R360. -/
  | reti
  /-- `(undefined 0xDB)`: 0xDB; R377. -/
  | undefinedDB
  /-- `(undefined 0xDD)`: 0xDD; R377. -/
  | undefinedDD
  /-- `RST 0x18`: 0xDF; R361. -/
  | rst18
  /-- `POP HL`: 0xE1; R235. -/
  | popHl
  /-- `LDH (C),A`: 0xE2; R213. -/
  | ldhMemCA
  /-- `(undefined 0xE3)`: 0xE3; R377. -/
  | undefinedE3
  /-- `(undefined 0xE4)`: 0xE4; R377. -/
  | undefinedE4
  /-- `PUSH HL`: 0xE5; R234. -/
  | pushHl
  /-- `RST 0x20`: 0xE7; R361. -/
  | rst20
  /-- `JP HL`: 0xE9; R353. -/
  | jpHl
  /-- `(undefined 0xEB)`: 0xEB; R377. -/
  | undefinedEB
  /-- `(undefined 0xEC)`: 0xEC; R377. -/
  | undefinedEC
  /-- `(undefined 0xED)`: 0xED; R377. -/
  | undefinedED
  /-- `RST 0x28`: 0xEF; R361. -/
  | rst28
  /-- `POP AF`: 0xF1; R236. -/
  | popAf
  /-- `LDH A,(C)`: 0xF2; R212. -/
  | ldhAMemC
  /-- `DI`: 0xF3; R374. -/
  | di
  /-- `(undefined 0xF4)`: 0xF4; R377. -/
  | undefinedF4
  /-- `PUSH AF`: 0xF5; R234. -/
  | pushAf
  /-- `RST 0x30`: 0xF7; R361. -/
  | rst30
  /-- `LD SP,HL`: 0xF9; R233. -/
  | ldSpHl
  /-- `EI`: 0xFB; R375. -/
  | ei
  /-- `(undefined 0xFC)`: 0xFC; R377. -/
  | undefinedFC
  /-- `(undefined 0xFD)`: 0xFD; R377. -/
  | undefinedFD
  /-- `RST 0x38`: 0xFF; R361. -/
  | rst38
  /-- `RLC B`: 0xCB 0x00; R315. -/
  | rlcB
  /-- `RLC C`: 0xCB 0x01; R315. -/
  | rlcC
  /-- `RLC D`: 0xCB 0x02; R315. -/
  | rlcD
  /-- `RLC E`: 0xCB 0x03; R315. -/
  | rlcE
  /-- `RLC H`: 0xCB 0x04; R315. -/
  | rlcH
  /-- `RLC L`: 0xCB 0x05; R315. -/
  | rlcL
  /-- `RLC (HL)`: 0xCB 0x06; R316. -/
  | rlcMemHl
  /-- `RLC A`: 0xCB 0x07; R315. -/
  | rlcA
  /-- `RRC B`: 0xCB 0x08; R317. -/
  | rrcB
  /-- `RRC C`: 0xCB 0x09; R317. -/
  | rrcC
  /-- `RRC D`: 0xCB 0x0A; R317. -/
  | rrcD
  /-- `RRC E`: 0xCB 0x0B; R317. -/
  | rrcE
  /-- `RRC H`: 0xCB 0x0C; R317. -/
  | rrcH
  /-- `RRC L`: 0xCB 0x0D; R317. -/
  | rrcL
  /-- `RRC (HL)`: 0xCB 0x0E; R318. -/
  | rrcMemHl
  /-- `RRC A`: 0xCB 0x0F; R317. -/
  | rrcA
  /-- `RL B`: 0xCB 0x10; R319. -/
  | rlB
  /-- `RL C`: 0xCB 0x11; R319. -/
  | rlC
  /-- `RL D`: 0xCB 0x12; R319. -/
  | rlD
  /-- `RL E`: 0xCB 0x13; R319. -/
  | rlE
  /-- `RL H`: 0xCB 0x14; R319. -/
  | rlH
  /-- `RL L`: 0xCB 0x15; R319. -/
  | rlL
  /-- `RL (HL)`: 0xCB 0x16; R320. -/
  | rlMemHl
  /-- `RL A`: 0xCB 0x17; R319. -/
  | rlA
  /-- `RR B`: 0xCB 0x18; R321. -/
  | rrB
  /-- `RR C`: 0xCB 0x19; R321. -/
  | rrC
  /-- `RR D`: 0xCB 0x1A; R321. -/
  | rrD
  /-- `RR E`: 0xCB 0x1B; R321. -/
  | rrE
  /-- `RR H`: 0xCB 0x1C; R321. -/
  | rrH
  /-- `RR L`: 0xCB 0x1D; R321. -/
  | rrL
  /-- `RR (HL)`: 0xCB 0x1E; R322. -/
  | rrMemHl
  /-- `RR A`: 0xCB 0x1F; R321. -/
  | rrA
  /-- `SLA B`: 0xCB 0x20; R323. -/
  | slaB
  /-- `SLA C`: 0xCB 0x21; R323. -/
  | slaC
  /-- `SLA D`: 0xCB 0x22; R323. -/
  | slaD
  /-- `SLA E`: 0xCB 0x23; R323. -/
  | slaE
  /-- `SLA H`: 0xCB 0x24; R323. -/
  | slaH
  /-- `SLA L`: 0xCB 0x25; R323. -/
  | slaL
  /-- `SLA (HL)`: 0xCB 0x26; R324. -/
  | slaMemHl
  /-- `SLA A`: 0xCB 0x27; R323. -/
  | slaA
  /-- `SRA B`: 0xCB 0x28; R325. -/
  | sraB
  /-- `SRA C`: 0xCB 0x29; R325. -/
  | sraC
  /-- `SRA D`: 0xCB 0x2A; R325. -/
  | sraD
  /-- `SRA E`: 0xCB 0x2B; R325. -/
  | sraE
  /-- `SRA H`: 0xCB 0x2C; R325. -/
  | sraH
  /-- `SRA L`: 0xCB 0x2D; R325. -/
  | sraL
  /-- `SRA (HL)`: 0xCB 0x2E; R326. -/
  | sraMemHl
  /-- `SRA A`: 0xCB 0x2F; R325. -/
  | sraA
  /-- `SWAP B`: 0xCB 0x30; R327. -/
  | swapB
  /-- `SWAP C`: 0xCB 0x31; R327. -/
  | swapC
  /-- `SWAP D`: 0xCB 0x32; R327. -/
  | swapD
  /-- `SWAP E`: 0xCB 0x33; R327. -/
  | swapE
  /-- `SWAP H`: 0xCB 0x34; R327. -/
  | swapH
  /-- `SWAP L`: 0xCB 0x35; R327. -/
  | swapL
  /-- `SWAP (HL)`: 0xCB 0x36; R328. -/
  | swapMemHl
  /-- `SWAP A`: 0xCB 0x37; R327. -/
  | swapA
  /-- `SRL B`: 0xCB 0x38; R329. -/
  | srlB
  /-- `SRL C`: 0xCB 0x39; R329. -/
  | srlC
  /-- `SRL D`: 0xCB 0x3A; R329. -/
  | srlD
  /-- `SRL E`: 0xCB 0x3B; R329. -/
  | srlE
  /-- `SRL H`: 0xCB 0x3C; R329. -/
  | srlH
  /-- `SRL L`: 0xCB 0x3D; R329. -/
  | srlL
  /-- `SRL (HL)`: 0xCB 0x3E; R330. -/
  | srlMemHl
  /-- `SRL A`: 0xCB 0x3F; R329. -/
  | srlA
  /-- `BIT 0,B`: 0xCB 0x40; R331. -/
  | bit0B
  /-- `BIT 0,C`: 0xCB 0x41; R331. -/
  | bit0C
  /-- `BIT 0,D`: 0xCB 0x42; R331. -/
  | bit0D
  /-- `BIT 0,E`: 0xCB 0x43; R331. -/
  | bit0E
  /-- `BIT 0,H`: 0xCB 0x44; R331. -/
  | bit0H
  /-- `BIT 0,L`: 0xCB 0x45; R331. -/
  | bit0L
  /-- `BIT 0,(HL)`: 0xCB 0x46; R332. -/
  | bit0MemHl
  /-- `BIT 0,A`: 0xCB 0x47; R331. -/
  | bit0A
  /-- `BIT 1,B`: 0xCB 0x48; R331. -/
  | bit1B
  /-- `BIT 1,C`: 0xCB 0x49; R331. -/
  | bit1C
  /-- `BIT 1,D`: 0xCB 0x4A; R331. -/
  | bit1D
  /-- `BIT 1,E`: 0xCB 0x4B; R331. -/
  | bit1E
  /-- `BIT 1,H`: 0xCB 0x4C; R331. -/
  | bit1H
  /-- `BIT 1,L`: 0xCB 0x4D; R331. -/
  | bit1L
  /-- `BIT 1,(HL)`: 0xCB 0x4E; R332. -/
  | bit1MemHl
  /-- `BIT 1,A`: 0xCB 0x4F; R331. -/
  | bit1A
  /-- `BIT 2,B`: 0xCB 0x50; R331. -/
  | bit2B
  /-- `BIT 2,C`: 0xCB 0x51; R331. -/
  | bit2C
  /-- `BIT 2,D`: 0xCB 0x52; R331. -/
  | bit2D
  /-- `BIT 2,E`: 0xCB 0x53; R331. -/
  | bit2E
  /-- `BIT 2,H`: 0xCB 0x54; R331. -/
  | bit2H
  /-- `BIT 2,L`: 0xCB 0x55; R331. -/
  | bit2L
  /-- `BIT 2,(HL)`: 0xCB 0x56; R332. -/
  | bit2MemHl
  /-- `BIT 2,A`: 0xCB 0x57; R331. -/
  | bit2A
  /-- `BIT 3,B`: 0xCB 0x58; R331. -/
  | bit3B
  /-- `BIT 3,C`: 0xCB 0x59; R331. -/
  | bit3C
  /-- `BIT 3,D`: 0xCB 0x5A; R331. -/
  | bit3D
  /-- `BIT 3,E`: 0xCB 0x5B; R331. -/
  | bit3E
  /-- `BIT 3,H`: 0xCB 0x5C; R331. -/
  | bit3H
  /-- `BIT 3,L`: 0xCB 0x5D; R331. -/
  | bit3L
  /-- `BIT 3,(HL)`: 0xCB 0x5E; R332. -/
  | bit3MemHl
  /-- `BIT 3,A`: 0xCB 0x5F; R331. -/
  | bit3A
  /-- `BIT 4,B`: 0xCB 0x60; R331. -/
  | bit4B
  /-- `BIT 4,C`: 0xCB 0x61; R331. -/
  | bit4C
  /-- `BIT 4,D`: 0xCB 0x62; R331. -/
  | bit4D
  /-- `BIT 4,E`: 0xCB 0x63; R331. -/
  | bit4E
  /-- `BIT 4,H`: 0xCB 0x64; R331. -/
  | bit4H
  /-- `BIT 4,L`: 0xCB 0x65; R331. -/
  | bit4L
  /-- `BIT 4,(HL)`: 0xCB 0x66; R332. -/
  | bit4MemHl
  /-- `BIT 4,A`: 0xCB 0x67; R331. -/
  | bit4A
  /-- `BIT 5,B`: 0xCB 0x68; R331. -/
  | bit5B
  /-- `BIT 5,C`: 0xCB 0x69; R331. -/
  | bit5C
  /-- `BIT 5,D`: 0xCB 0x6A; R331. -/
  | bit5D
  /-- `BIT 5,E`: 0xCB 0x6B; R331. -/
  | bit5E
  /-- `BIT 5,H`: 0xCB 0x6C; R331. -/
  | bit5H
  /-- `BIT 5,L`: 0xCB 0x6D; R331. -/
  | bit5L
  /-- `BIT 5,(HL)`: 0xCB 0x6E; R332. -/
  | bit5MemHl
  /-- `BIT 5,A`: 0xCB 0x6F; R331. -/
  | bit5A
  /-- `BIT 6,B`: 0xCB 0x70; R331. -/
  | bit6B
  /-- `BIT 6,C`: 0xCB 0x71; R331. -/
  | bit6C
  /-- `BIT 6,D`: 0xCB 0x72; R331. -/
  | bit6D
  /-- `BIT 6,E`: 0xCB 0x73; R331. -/
  | bit6E
  /-- `BIT 6,H`: 0xCB 0x74; R331. -/
  | bit6H
  /-- `BIT 6,L`: 0xCB 0x75; R331. -/
  | bit6L
  /-- `BIT 6,(HL)`: 0xCB 0x76; R332. -/
  | bit6MemHl
  /-- `BIT 6,A`: 0xCB 0x77; R331. -/
  | bit6A
  /-- `BIT 7,B`: 0xCB 0x78; R331. -/
  | bit7B
  /-- `BIT 7,C`: 0xCB 0x79; R331. -/
  | bit7C
  /-- `BIT 7,D`: 0xCB 0x7A; R331. -/
  | bit7D
  /-- `BIT 7,E`: 0xCB 0x7B; R331. -/
  | bit7E
  /-- `BIT 7,H`: 0xCB 0x7C; R331. -/
  | bit7H
  /-- `BIT 7,L`: 0xCB 0x7D; R331. -/
  | bit7L
  /-- `BIT 7,(HL)`: 0xCB 0x7E; R332. -/
  | bit7MemHl
  /-- `BIT 7,A`: 0xCB 0x7F; R331. -/
  | bit7A
  /-- `RES 0,B`: 0xCB 0x80; R333. -/
  | res0B
  /-- `RES 0,C`: 0xCB 0x81; R333. -/
  | res0C
  /-- `RES 0,D`: 0xCB 0x82; R333. -/
  | res0D
  /-- `RES 0,E`: 0xCB 0x83; R333. -/
  | res0E
  /-- `RES 0,H`: 0xCB 0x84; R333. -/
  | res0H
  /-- `RES 0,L`: 0xCB 0x85; R333. -/
  | res0L
  /-- `RES 0,(HL)`: 0xCB 0x86; R334. -/
  | res0MemHl
  /-- `RES 0,A`: 0xCB 0x87; R333. -/
  | res0A
  /-- `RES 1,B`: 0xCB 0x88; R333. -/
  | res1B
  /-- `RES 1,C`: 0xCB 0x89; R333. -/
  | res1C
  /-- `RES 1,D`: 0xCB 0x8A; R333. -/
  | res1D
  /-- `RES 1,E`: 0xCB 0x8B; R333. -/
  | res1E
  /-- `RES 1,H`: 0xCB 0x8C; R333. -/
  | res1H
  /-- `RES 1,L`: 0xCB 0x8D; R333. -/
  | res1L
  /-- `RES 1,(HL)`: 0xCB 0x8E; R334. -/
  | res1MemHl
  /-- `RES 1,A`: 0xCB 0x8F; R333. -/
  | res1A
  /-- `RES 2,B`: 0xCB 0x90; R333. -/
  | res2B
  /-- `RES 2,C`: 0xCB 0x91; R333. -/
  | res2C
  /-- `RES 2,D`: 0xCB 0x92; R333. -/
  | res2D
  /-- `RES 2,E`: 0xCB 0x93; R333. -/
  | res2E
  /-- `RES 2,H`: 0xCB 0x94; R333. -/
  | res2H
  /-- `RES 2,L`: 0xCB 0x95; R333. -/
  | res2L
  /-- `RES 2,(HL)`: 0xCB 0x96; R334. -/
  | res2MemHl
  /-- `RES 2,A`: 0xCB 0x97; R333. -/
  | res2A
  /-- `RES 3,B`: 0xCB 0x98; R333. -/
  | res3B
  /-- `RES 3,C`: 0xCB 0x99; R333. -/
  | res3C
  /-- `RES 3,D`: 0xCB 0x9A; R333. -/
  | res3D
  /-- `RES 3,E`: 0xCB 0x9B; R333. -/
  | res3E
  /-- `RES 3,H`: 0xCB 0x9C; R333. -/
  | res3H
  /-- `RES 3,L`: 0xCB 0x9D; R333. -/
  | res3L
  /-- `RES 3,(HL)`: 0xCB 0x9E; R334. -/
  | res3MemHl
  /-- `RES 3,A`: 0xCB 0x9F; R333. -/
  | res3A
  /-- `RES 4,B`: 0xCB 0xA0; R333. -/
  | res4B
  /-- `RES 4,C`: 0xCB 0xA1; R333. -/
  | res4C
  /-- `RES 4,D`: 0xCB 0xA2; R333. -/
  | res4D
  /-- `RES 4,E`: 0xCB 0xA3; R333. -/
  | res4E
  /-- `RES 4,H`: 0xCB 0xA4; R333. -/
  | res4H
  /-- `RES 4,L`: 0xCB 0xA5; R333. -/
  | res4L
  /-- `RES 4,(HL)`: 0xCB 0xA6; R334. -/
  | res4MemHl
  /-- `RES 4,A`: 0xCB 0xA7; R333. -/
  | res4A
  /-- `RES 5,B`: 0xCB 0xA8; R333. -/
  | res5B
  /-- `RES 5,C`: 0xCB 0xA9; R333. -/
  | res5C
  /-- `RES 5,D`: 0xCB 0xAA; R333. -/
  | res5D
  /-- `RES 5,E`: 0xCB 0xAB; R333. -/
  | res5E
  /-- `RES 5,H`: 0xCB 0xAC; R333. -/
  | res5H
  /-- `RES 5,L`: 0xCB 0xAD; R333. -/
  | res5L
  /-- `RES 5,(HL)`: 0xCB 0xAE; R334. -/
  | res5MemHl
  /-- `RES 5,A`: 0xCB 0xAF; R333. -/
  | res5A
  /-- `RES 6,B`: 0xCB 0xB0; R333. -/
  | res6B
  /-- `RES 6,C`: 0xCB 0xB1; R333. -/
  | res6C
  /-- `RES 6,D`: 0xCB 0xB2; R333. -/
  | res6D
  /-- `RES 6,E`: 0xCB 0xB3; R333. -/
  | res6E
  /-- `RES 6,H`: 0xCB 0xB4; R333. -/
  | res6H
  /-- `RES 6,L`: 0xCB 0xB5; R333. -/
  | res6L
  /-- `RES 6,(HL)`: 0xCB 0xB6; R334. -/
  | res6MemHl
  /-- `RES 6,A`: 0xCB 0xB7; R333. -/
  | res6A
  /-- `RES 7,B`: 0xCB 0xB8; R333. -/
  | res7B
  /-- `RES 7,C`: 0xCB 0xB9; R333. -/
  | res7C
  /-- `RES 7,D`: 0xCB 0xBA; R333. -/
  | res7D
  /-- `RES 7,E`: 0xCB 0xBB; R333. -/
  | res7E
  /-- `RES 7,H`: 0xCB 0xBC; R333. -/
  | res7H
  /-- `RES 7,L`: 0xCB 0xBD; R333. -/
  | res7L
  /-- `RES 7,(HL)`: 0xCB 0xBE; R334. -/
  | res7MemHl
  /-- `RES 7,A`: 0xCB 0xBF; R333. -/
  | res7A
  /-- `SET 0,B`: 0xCB 0xC0; R335. -/
  | set0B
  /-- `SET 0,C`: 0xCB 0xC1; R335. -/
  | set0C
  /-- `SET 0,D`: 0xCB 0xC2; R335. -/
  | set0D
  /-- `SET 0,E`: 0xCB 0xC3; R335. -/
  | set0E
  /-- `SET 0,H`: 0xCB 0xC4; R335. -/
  | set0H
  /-- `SET 0,L`: 0xCB 0xC5; R335. -/
  | set0L
  /-- `SET 0,(HL)`: 0xCB 0xC6; R336. -/
  | set0MemHl
  /-- `SET 0,A`: 0xCB 0xC7; R335. -/
  | set0A
  /-- `SET 1,B`: 0xCB 0xC8; R335. -/
  | set1B
  /-- `SET 1,C`: 0xCB 0xC9; R335. -/
  | set1C
  /-- `SET 1,D`: 0xCB 0xCA; R335. -/
  | set1D
  /-- `SET 1,E`: 0xCB 0xCB; R335. -/
  | set1E
  /-- `SET 1,H`: 0xCB 0xCC; R335. -/
  | set1H
  /-- `SET 1,L`: 0xCB 0xCD; R335. -/
  | set1L
  /-- `SET 1,(HL)`: 0xCB 0xCE; R336. -/
  | set1MemHl
  /-- `SET 1,A`: 0xCB 0xCF; R335. -/
  | set1A
  /-- `SET 2,B`: 0xCB 0xD0; R335. -/
  | set2B
  /-- `SET 2,C`: 0xCB 0xD1; R335. -/
  | set2C
  /-- `SET 2,D`: 0xCB 0xD2; R335. -/
  | set2D
  /-- `SET 2,E`: 0xCB 0xD3; R335. -/
  | set2E
  /-- `SET 2,H`: 0xCB 0xD4; R335. -/
  | set2H
  /-- `SET 2,L`: 0xCB 0xD5; R335. -/
  | set2L
  /-- `SET 2,(HL)`: 0xCB 0xD6; R336. -/
  | set2MemHl
  /-- `SET 2,A`: 0xCB 0xD7; R335. -/
  | set2A
  /-- `SET 3,B`: 0xCB 0xD8; R335. -/
  | set3B
  /-- `SET 3,C`: 0xCB 0xD9; R335. -/
  | set3C
  /-- `SET 3,D`: 0xCB 0xDA; R335. -/
  | set3D
  /-- `SET 3,E`: 0xCB 0xDB; R335. -/
  | set3E
  /-- `SET 3,H`: 0xCB 0xDC; R335. -/
  | set3H
  /-- `SET 3,L`: 0xCB 0xDD; R335. -/
  | set3L
  /-- `SET 3,(HL)`: 0xCB 0xDE; R336. -/
  | set3MemHl
  /-- `SET 3,A`: 0xCB 0xDF; R335. -/
  | set3A
  /-- `SET 4,B`: 0xCB 0xE0; R335. -/
  | set4B
  /-- `SET 4,C`: 0xCB 0xE1; R335. -/
  | set4C
  /-- `SET 4,D`: 0xCB 0xE2; R335. -/
  | set4D
  /-- `SET 4,E`: 0xCB 0xE3; R335. -/
  | set4E
  /-- `SET 4,H`: 0xCB 0xE4; R335. -/
  | set4H
  /-- `SET 4,L`: 0xCB 0xE5; R335. -/
  | set4L
  /-- `SET 4,(HL)`: 0xCB 0xE6; R336. -/
  | set4MemHl
  /-- `SET 4,A`: 0xCB 0xE7; R335. -/
  | set4A
  /-- `SET 5,B`: 0xCB 0xE8; R335. -/
  | set5B
  /-- `SET 5,C`: 0xCB 0xE9; R335. -/
  | set5C
  /-- `SET 5,D`: 0xCB 0xEA; R335. -/
  | set5D
  /-- `SET 5,E`: 0xCB 0xEB; R335. -/
  | set5E
  /-- `SET 5,H`: 0xCB 0xEC; R335. -/
  | set5H
  /-- `SET 5,L`: 0xCB 0xED; R335. -/
  | set5L
  /-- `SET 5,(HL)`: 0xCB 0xEE; R336. -/
  | set5MemHl
  /-- `SET 5,A`: 0xCB 0xEF; R335. -/
  | set5A
  /-- `SET 6,B`: 0xCB 0xF0; R335. -/
  | set6B
  /-- `SET 6,C`: 0xCB 0xF1; R335. -/
  | set6C
  /-- `SET 6,D`: 0xCB 0xF2; R335. -/
  | set6D
  /-- `SET 6,E`: 0xCB 0xF3; R335. -/
  | set6E
  /-- `SET 6,H`: 0xCB 0xF4; R335. -/
  | set6H
  /-- `SET 6,L`: 0xCB 0xF5; R335. -/
  | set6L
  /-- `SET 6,(HL)`: 0xCB 0xF6; R336. -/
  | set6MemHl
  /-- `SET 6,A`: 0xCB 0xF7; R335. -/
  | set6A
  /-- `SET 7,B`: 0xCB 0xF8; R335. -/
  | set7B
  /-- `SET 7,C`: 0xCB 0xF9; R335. -/
  | set7C
  /-- `SET 7,D`: 0xCB 0xFA; R335. -/
  | set7D
  /-- `SET 7,E`: 0xCB 0xFB; R335. -/
  | set7E
  /-- `SET 7,H`: 0xCB 0xFC; R335. -/
  | set7H
  /-- `SET 7,L`: 0xCB 0xFD; R335. -/
  | set7L
  /-- `SET 7,(HL)`: 0xCB 0xFE; R336. -/
  | set7MemHl
  /-- `SET 7,A`: 0xCB 0xFF; R335. -/
  | set7A
deriving DecidableEq, Repr

end Sys2Proof
end

