-- ==== Sys2Proof/WellFormed.lean ====
section
/-! DEFINITION. Which terms of `Instr` are instructions. The widths of immediates are in their types; registers,
conditions, bit numbers and RST targets are in the constructors. One check is left: the row of the CB prefix "is not an
instruction by itself" (48_system.md R376): it is completed by its second byte, and the complete two-byte instruction
is a constructor of the CB table. -/

namespace Sys2Proof

/-- A complete instruction: every constructor but the bare prefix (R376, R103). -/
def WellFormed (i : Instr) : Bool := decide (i ≠ .prefixCb)

end Sys2Proof
end

