-- ==== Sys2Proof/Decode.lean ====
section
/-! DEFINITION. The instruction encoding of 30_encoding.md: the families of constructors by their operands, the decoder
(by the fields x, y, z, p, q of R91 and the quadrants of R99 to R103), and the encoder (one line per row of
spec/opcode_table.json). The decoder and the encoder are two transcriptions; that they agree is stated as obligations. -/

namespace Sys2Proof

/-! ## Families of constructors -/

/-- `LD r,r'` (R201). -/
def Instr.ldRegReg (dst src : Reg8) : Instr :=
  match dst, src with
  | .b, .b => .ldBB
  | .b, .c => .ldBC
  | .b, .d => .ldBD
  | .b, .e => .ldBE
  | .b, .h => .ldBH
  | .b, .l => .ldBL
  | .b, .a => .ldBA
  | .c, .b => .ldCB
  | .c, .c => .ldCC
  | .c, .d => .ldCD
  | .c, .e => .ldCE
  | .c, .h => .ldCH
  | .c, .l => .ldCL
  | .c, .a => .ldCA
  | .d, .b => .ldDB
  | .d, .c => .ldDC
  | .d, .d => .ldDD
  | .d, .e => .ldDE
  | .d, .h => .ldDH
  | .d, .l => .ldDL
  | .d, .a => .ldDA
  | .e, .b => .ldEB
  | .e, .c => .ldEC
  | .e, .d => .ldED
  | .e, .e => .ldEE
  | .e, .h => .ldEH
  | .e, .l => .ldEL
  | .e, .a => .ldEA
  | .h, .b => .ldHB
  | .h, .c => .ldHC
  | .h, .d => .ldHD
  | .h, .e => .ldHE
  | .h, .h => .ldHH
  | .h, .l => .ldHL
  | .h, .a => .ldHA
  | .l, .b => .ldLB
  | .l, .c => .ldLC
  | .l, .d => .ldLD
  | .l, .e => .ldLE
  | .l, .h => .ldLH
  | .l, .l => .ldLL
  | .l, .a => .ldLA
  | .a, .b => .ldAB
  | .a, .c => .ldAC
  | .a, .d => .ldAD
  | .a, .e => .ldAE
  | .a, .h => .ldAH
  | .a, .l => .ldAL
  | .a, .a => .ldAA

/-- `LD r,n` (R202). -/
def Instr.ldRegImm (dst : Reg8) (n : Byte) : Instr :=
  match dst with
  | .b => .ldBN n
  | .c => .ldCN n
  | .d => .ldDN n
  | .e => .ldEN n
  | .h => .ldHN n
  | .l => .ldLN n
  | .a => .ldAN n

/-- `LD r,(HL)` (R203). -/
def Instr.ldRegMem (dst : Reg8) : Instr :=
  match dst with
  | .b => .ldBMemHl
  | .c => .ldCMemHl
  | .d => .ldDMemHl
  | .e => .ldEMemHl
  | .h => .ldHMemHl
  | .l => .ldLMemHl
  | .a => .ldAMemHl

/-- `LD (HL),r` (R204). -/
def Instr.ldMemReg (src : Reg8) : Instr :=
  match src with
  | .b => .ldMemHlB
  | .c => .ldMemHlC
  | .d => .ldMemHlD
  | .e => .ldMemHlE
  | .h => .ldMemHlH
  | .l => .ldMemHlL
  | .a => .ldMemHlA

/-- `LD A,(BC)`, `LD A,(DE)`, `LD A,(HL+)`, `LD A,(HL-)` (R206, R207, R218, R216). -/
def Instr.ldAIndirect (m : Indirect) : Instr :=
  match m with
  | .bc => .ldAMemBc
  | .de => .ldAMemDe
  | .hlInc => .ldAMemHlInc
  | .hlDec => .ldAMemHlDec

/-- `LD (BC),A`, `LD (DE),A`, `LD (HL+),A`, `LD (HL-),A` (R208, R209, R219, R217). -/
def Instr.ldIndirectA (m : Indirect) : Instr :=
  match m with
  | .bc => .ldMemBcA
  | .de => .ldMemDeA
  | .hlInc => .ldMemHlIncA
  | .hlDec => .ldMemHlDecA

/-- `LD rr,nn` (R231). -/
def Instr.ldPairImm (p : Pair16) (nn : Word) : Instr :=
  match p with
  | .bc => .ldBcNn nn
  | .de => .ldDeNn nn
  | .hl => .ldHlNn nn
  | .sp => .ldSpNn nn

/-- `PUSH qq` (R234). -/
def Instr.push (q : StkPair) : Instr :=
  match q with
  | .bc => .pushBc
  | .de => .pushDe
  | .hl => .pushHl
  | .af => .pushAf

/-- `POP qq` (R235, R236). -/
def Instr.pop (q : StkPair) : Instr :=
  match q with
  | .bc => .popBc
  | .de => .popDe
  | .hl => .popHl
  | .af => .popAf

/-- `op A,r` (R250). -/
def Instr.aluReg (op : AluOp) (src : Reg8) : Instr :=
  match op, src with
  | .add, .b => .addAB
  | .add, .c => .addAC
  | .add, .d => .addAD
  | .add, .e => .addAE
  | .add, .h => .addAH
  | .add, .l => .addAL
  | .add, .a => .addAA
  | .adc, .b => .adcAB
  | .adc, .c => .adcAC
  | .adc, .d => .adcAD
  | .adc, .e => .adcAE
  | .adc, .h => .adcAH
  | .adc, .l => .adcAL
  | .adc, .a => .adcAA
  | .sub, .b => .subAB
  | .sub, .c => .subAC
  | .sub, .d => .subAD
  | .sub, .e => .subAE
  | .sub, .h => .subAH
  | .sub, .l => .subAL
  | .sub, .a => .subAA
  | .sbc, .b => .sbcAB
  | .sbc, .c => .sbcAC
  | .sbc, .d => .sbcAD
  | .sbc, .e => .sbcAE
  | .sbc, .h => .sbcAH
  | .sbc, .l => .sbcAL
  | .sbc, .a => .sbcAA
  | .and, .b => .andAB
  | .and, .c => .andAC
  | .and, .d => .andAD
  | .and, .e => .andAE
  | .and, .h => .andAH
  | .and, .l => .andAL
  | .and, .a => .andAA
  | .xor, .b => .xorAB
  | .xor, .c => .xorAC
  | .xor, .d => .xorAD
  | .xor, .e => .xorAE
  | .xor, .h => .xorAH
  | .xor, .l => .xorAL
  | .xor, .a => .xorAA
  | .or, .b => .orAB
  | .or, .c => .orAC
  | .or, .d => .orAD
  | .or, .e => .orAE
  | .or, .h => .orAH
  | .or, .l => .orAL
  | .or, .a => .orAA
  | .cp, .b => .cpAB
  | .cp, .c => .cpAC
  | .cp, .d => .cpAD
  | .cp, .e => .cpAE
  | .cp, .h => .cpAH
  | .cp, .l => .cpAL
  | .cp, .a => .cpAA

/-- `op A,(HL)` (R250). -/
def Instr.aluMem (op : AluOp) : Instr :=
  match op with
  | .add => .addAMemHl
  | .adc => .adcAMemHl
  | .sub => .subAMemHl
  | .sbc => .sbcAMemHl
  | .and => .andAMemHl
  | .xor => .xorAMemHl
  | .or => .orAMemHl
  | .cp => .cpAMemHl

/-- `op A,n` (R250). -/
def Instr.aluImm (op : AluOp) (n : Byte) : Instr :=
  match op with
  | .add => .addAN n
  | .adc => .adcAN n
  | .sub => .subAN n
  | .sbc => .sbcAN n
  | .and => .andAN n
  | .xor => .xorAN n
  | .or => .orAN n
  | .cp => .cpAN n

/-- `INC r` (R275). -/
def Instr.incReg (src : Reg8) : Instr :=
  match src with
  | .b => .incB
  | .c => .incC
  | .d => .incD
  | .e => .incE
  | .h => .incH
  | .l => .incL
  | .a => .incA

/-- `DEC r` (R277). -/
def Instr.decReg (src : Reg8) : Instr :=
  match src with
  | .b => .decB
  | .c => .decC
  | .d => .decD
  | .e => .decE
  | .h => .decH
  | .l => .decL
  | .a => .decA

/-- `ADD HL,rr` (R301). -/
def Instr.addHlPair (p : Pair16) : Instr :=
  match p with
  | .bc => .addHlBc
  | .de => .addHlDe
  | .hl => .addHlHl
  | .sp => .addHlSp

/-- `INC rr` (R302). -/
def Instr.incPair (p : Pair16) : Instr :=
  match p with
  | .bc => .incBc
  | .de => .incDe
  | .hl => .incHl
  | .sp => .incSp

/-- `DEC rr` (R303). -/
def Instr.decPair (p : Pair16) : Instr :=
  match p with
  | .bc => .decBc
  | .de => .decDe
  | .hl => .decHl
  | .sp => .decSp

/-- `RLCA`, `RRCA`, `RLA`, `RRA` (R311 to R314). -/
def Instr.accRot (o : AccRot) : Instr :=
  match o with
  | .rlca => .rlca
  | .rrca => .rrca
  | .rla => .rla
  | .rra => .rra

/-- CB-prefixed rotate or shift of a register (R315, R317, …, R329). -/
def Instr.rotReg (o : RotOp) (src : Reg8) : Instr :=
  match o, src with
  | .rlc, .b => .rlcB
  | .rlc, .c => .rlcC
  | .rlc, .d => .rlcD
  | .rlc, .e => .rlcE
  | .rlc, .h => .rlcH
  | .rlc, .l => .rlcL
  | .rlc, .a => .rlcA
  | .rrc, .b => .rrcB
  | .rrc, .c => .rrcC
  | .rrc, .d => .rrcD
  | .rrc, .e => .rrcE
  | .rrc, .h => .rrcH
  | .rrc, .l => .rrcL
  | .rrc, .a => .rrcA
  | .rl, .b => .rlB
  | .rl, .c => .rlC
  | .rl, .d => .rlD
  | .rl, .e => .rlE
  | .rl, .h => .rlH
  | .rl, .l => .rlL
  | .rl, .a => .rlA
  | .rr, .b => .rrB
  | .rr, .c => .rrC
  | .rr, .d => .rrD
  | .rr, .e => .rrE
  | .rr, .h => .rrH
  | .rr, .l => .rrL
  | .rr, .a => .rrA
  | .sla, .b => .slaB
  | .sla, .c => .slaC
  | .sla, .d => .slaD
  | .sla, .e => .slaE
  | .sla, .h => .slaH
  | .sla, .l => .slaL
  | .sla, .a => .slaA
  | .sra, .b => .sraB
  | .sra, .c => .sraC
  | .sra, .d => .sraD
  | .sra, .e => .sraE
  | .sra, .h => .sraH
  | .sra, .l => .sraL
  | .sra, .a => .sraA
  | .swap, .b => .swapB
  | .swap, .c => .swapC
  | .swap, .d => .swapD
  | .swap, .e => .swapE
  | .swap, .h => .swapH
  | .swap, .l => .swapL
  | .swap, .a => .swapA
  | .srl, .b => .srlB
  | .srl, .c => .srlC
  | .srl, .d => .srlD
  | .srl, .e => .srlE
  | .srl, .h => .srlH
  | .srl, .l => .srlL
  | .srl, .a => .srlA

/-- CB-prefixed rotate or shift of `(HL)` (R316, R318, …, R330). -/
def Instr.rotMem (o : RotOp) : Instr :=
  match o with
  | .rlc => .rlcMemHl
  | .rrc => .rrcMemHl
  | .rl => .rlMemHl
  | .rr => .rrMemHl
  | .sla => .slaMemHl
  | .sra => .sraMemHl
  | .swap => .swapMemHl
  | .srl => .srlMemHl

/-- `BIT b,r` (R331). -/
def Instr.bitReg (n : Fin 8) (src : Reg8) : Instr :=
  match n, src with
  | 0, .b => .bit0B
  | 0, .c => .bit0C
  | 0, .d => .bit0D
  | 0, .e => .bit0E
  | 0, .h => .bit0H
  | 0, .l => .bit0L
  | 0, .a => .bit0A
  | 1, .b => .bit1B
  | 1, .c => .bit1C
  | 1, .d => .bit1D
  | 1, .e => .bit1E
  | 1, .h => .bit1H
  | 1, .l => .bit1L
  | 1, .a => .bit1A
  | 2, .b => .bit2B
  | 2, .c => .bit2C
  | 2, .d => .bit2D
  | 2, .e => .bit2E
  | 2, .h => .bit2H
  | 2, .l => .bit2L
  | 2, .a => .bit2A
  | 3, .b => .bit3B
  | 3, .c => .bit3C
  | 3, .d => .bit3D
  | 3, .e => .bit3E
  | 3, .h => .bit3H
  | 3, .l => .bit3L
  | 3, .a => .bit3A
  | 4, .b => .bit4B
  | 4, .c => .bit4C
  | 4, .d => .bit4D
  | 4, .e => .bit4E
  | 4, .h => .bit4H
  | 4, .l => .bit4L
  | 4, .a => .bit4A
  | 5, .b => .bit5B
  | 5, .c => .bit5C
  | 5, .d => .bit5D
  | 5, .e => .bit5E
  | 5, .h => .bit5H
  | 5, .l => .bit5L
  | 5, .a => .bit5A
  | 6, .b => .bit6B
  | 6, .c => .bit6C
  | 6, .d => .bit6D
  | 6, .e => .bit6E
  | 6, .h => .bit6H
  | 6, .l => .bit6L
  | 6, .a => .bit6A
  | 7, .b => .bit7B
  | 7, .c => .bit7C
  | 7, .d => .bit7D
  | 7, .e => .bit7E
  | 7, .h => .bit7H
  | 7, .l => .bit7L
  | 7, .a => .bit7A

/-- `BIT b,(HL)` (R332). -/
def Instr.bitMem (n : Fin 8) : Instr :=
  match n with
  | 0 => .bit0MemHl
  | 1 => .bit1MemHl
  | 2 => .bit2MemHl
  | 3 => .bit3MemHl
  | 4 => .bit4MemHl
  | 5 => .bit5MemHl
  | 6 => .bit6MemHl
  | 7 => .bit7MemHl

/-- `RES b,r` (R333). -/
def Instr.resReg (n : Fin 8) (src : Reg8) : Instr :=
  match n, src with
  | 0, .b => .res0B
  | 0, .c => .res0C
  | 0, .d => .res0D
  | 0, .e => .res0E
  | 0, .h => .res0H
  | 0, .l => .res0L
  | 0, .a => .res0A
  | 1, .b => .res1B
  | 1, .c => .res1C
  | 1, .d => .res1D
  | 1, .e => .res1E
  | 1, .h => .res1H
  | 1, .l => .res1L
  | 1, .a => .res1A
  | 2, .b => .res2B
  | 2, .c => .res2C
  | 2, .d => .res2D
  | 2, .e => .res2E
  | 2, .h => .res2H
  | 2, .l => .res2L
  | 2, .a => .res2A
  | 3, .b => .res3B
  | 3, .c => .res3C
  | 3, .d => .res3D
  | 3, .e => .res3E
  | 3, .h => .res3H
  | 3, .l => .res3L
  | 3, .a => .res3A
  | 4, .b => .res4B
  | 4, .c => .res4C
  | 4, .d => .res4D
  | 4, .e => .res4E
  | 4, .h => .res4H
  | 4, .l => .res4L
  | 4, .a => .res4A
  | 5, .b => .res5B
  | 5, .c => .res5C
  | 5, .d => .res5D
  | 5, .e => .res5E
  | 5, .h => .res5H
  | 5, .l => .res5L
  | 5, .a => .res5A
  | 6, .b => .res6B
  | 6, .c => .res6C
  | 6, .d => .res6D
  | 6, .e => .res6E
  | 6, .h => .res6H
  | 6, .l => .res6L
  | 6, .a => .res6A
  | 7, .b => .res7B
  | 7, .c => .res7C
  | 7, .d => .res7D
  | 7, .e => .res7E
  | 7, .h => .res7H
  | 7, .l => .res7L
  | 7, .a => .res7A

/-- `RES b,(HL)` (R334). -/
def Instr.resMem (n : Fin 8) : Instr :=
  match n with
  | 0 => .res0MemHl
  | 1 => .res1MemHl
  | 2 => .res2MemHl
  | 3 => .res3MemHl
  | 4 => .res4MemHl
  | 5 => .res5MemHl
  | 6 => .res6MemHl
  | 7 => .res7MemHl

/-- `SET b,r` (R335). -/
def Instr.setReg (n : Fin 8) (src : Reg8) : Instr :=
  match n, src with
  | 0, .b => .set0B
  | 0, .c => .set0C
  | 0, .d => .set0D
  | 0, .e => .set0E
  | 0, .h => .set0H
  | 0, .l => .set0L
  | 0, .a => .set0A
  | 1, .b => .set1B
  | 1, .c => .set1C
  | 1, .d => .set1D
  | 1, .e => .set1E
  | 1, .h => .set1H
  | 1, .l => .set1L
  | 1, .a => .set1A
  | 2, .b => .set2B
  | 2, .c => .set2C
  | 2, .d => .set2D
  | 2, .e => .set2E
  | 2, .h => .set2H
  | 2, .l => .set2L
  | 2, .a => .set2A
  | 3, .b => .set3B
  | 3, .c => .set3C
  | 3, .d => .set3D
  | 3, .e => .set3E
  | 3, .h => .set3H
  | 3, .l => .set3L
  | 3, .a => .set3A
  | 4, .b => .set4B
  | 4, .c => .set4C
  | 4, .d => .set4D
  | 4, .e => .set4E
  | 4, .h => .set4H
  | 4, .l => .set4L
  | 4, .a => .set4A
  | 5, .b => .set5B
  | 5, .c => .set5C
  | 5, .d => .set5D
  | 5, .e => .set5E
  | 5, .h => .set5H
  | 5, .l => .set5L
  | 5, .a => .set5A
  | 6, .b => .set6B
  | 6, .c => .set6C
  | 6, .d => .set6D
  | 6, .e => .set6E
  | 6, .h => .set6H
  | 6, .l => .set6L
  | 6, .a => .set6A
  | 7, .b => .set7B
  | 7, .c => .set7C
  | 7, .d => .set7D
  | 7, .e => .set7E
  | 7, .h => .set7H
  | 7, .l => .set7L
  | 7, .a => .set7A

/-- `SET b,(HL)` (R336). -/
def Instr.setMem (n : Fin 8) : Instr :=
  match n with
  | 0 => .set0MemHl
  | 1 => .set1MemHl
  | 2 => .set2MemHl
  | 3 => .set3MemHl
  | 4 => .set4MemHl
  | 5 => .set5MemHl
  | 6 => .set6MemHl
  | 7 => .set7MemHl

/-- `JP cc,nn` (R352). -/
def Instr.jpCond (k : Cond) (nn : Word) : Instr :=
  match k with
  | .nz => .jpNzNn nn
  | .z => .jpZNn nn
  | .nc => .jpNcNn nn
  | .c => .jpCNn nn

/-- `JR cc,e` (R355). -/
def Instr.jrCond (k : Cond) (e : Byte) : Instr :=
  match k with
  | .nz => .jrNzE e
  | .z => .jrZE e
  | .nc => .jrNcE e
  | .c => .jrCE e

/-- `CALL cc,nn` (R357). -/
def Instr.callCond (k : Cond) (nn : Word) : Instr :=
  match k with
  | .nz => .callNzNn nn
  | .z => .callZNn nn
  | .nc => .callNcNn nn
  | .c => .callCNn nn

/-- `RET cc` (R359). -/
def Instr.retCond (k : Cond) : Instr :=
  match k with
  | .nz => .retNz
  | .z => .retZ
  | .nc => .retNc
  | .c => .retC

/-- `RST 8*t` (R361). -/
def Instr.rst (t : Fin 8) : Instr :=
  match t with
  | 0 => .rst00
  | 1 => .rst08
  | 2 => .rst10
  | 3 => .rst18
  | 4 => .rst20
  | 5 => .rst28
  | 6 => .rst30
  | 7 => .rst38

/-- A load whose destination and source are entries of table `r8` (R100); the entry (6, 6) is `HALT`. -/
def Instr.ldLocLoc (dst src : Loc8) : Instr :=
  match dst, src with
  | .reg x, .reg y => .ldRegReg x y
  | .reg x, .memHl => .ldRegMem x
  | .memHl, .reg y => .ldMemReg y
  | .memHl, .memHl => .halt

/-- `LD r8[y],n` (R99, z = 6). -/
def Instr.ldLocImm (dst : Loc8) (n : Byte) : Instr :=
  match dst with
  | .reg x => .ldRegImm x n
  | .memHl => .ldMemHlN n

/-- `INC r8[y]` (R99, z = 4). -/
def Instr.incLoc (x : Loc8) : Instr :=
  match x with
  | .reg r => .incReg r
  | .memHl => .incMemHl

/-- `DEC r8[y]` (R99, z = 5). -/
def Instr.decLoc (x : Loc8) : Instr :=
  match x with
  | .reg r => .decReg r
  | .memHl => .decMemHl

/-- `alu[y] A,r8[z]` (R101). -/
def Instr.aluLoc (op : AluOp) (x : Loc8) : Instr :=
  match x with
  | .reg r => .aluReg op r
  | .memHl => .aluMem op

/-- `rot[y] r8[z]` (R103, x = 0). -/
def Instr.rotLoc (o : RotOp) (x : Loc8) : Instr :=
  match x with
  | .reg r => .rotReg o r
  | .memHl => .rotMem o

/-- `BIT y,r8[z]` (R103, x = 1). -/
def Instr.bitLoc (n : Fin 8) (x : Loc8) : Instr :=
  match x with
  | .reg r => .bitReg n r
  | .memHl => .bitMem n

/-- `RES y,r8[z]` (R103, x = 2). -/
def Instr.resLoc (n : Fin 8) (x : Loc8) : Instr :=
  match x with
  | .reg r => .resReg n r
  | .memHl => .resMem n

/-- `SET y,r8[z]` (R103, x = 3). -/
def Instr.setLoc (n : Fin 8) (x : Loc8) : Instr :=
  match x with
  | .reg r => .setReg n r
  | .memHl => .setMem n

/-- The eleven undefined opcodes' constructors (R104). -/
def Instr.undefinedOpcodes : List Instr :=
  [.undefinedD3, .undefinedDB, .undefinedDD, .undefinedE3, .undefinedE4, .undefinedEB, .undefinedEC, .undefinedED,
    .undefinedF4, .undefinedFC, .undefinedFD]

/-! ## Fields and operand tables -/

/-- `x = op[7:6]` (R91). -/
def fieldX (op : Byte) : Nat := op.toNat / 64
/-- `y = op[5:3]` (R91). -/
def fieldY (op : Byte) : Nat := op.toNat / 8 % 8
/-- `z = op[2:0]` (R91). -/
def fieldZ (op : Byte) : Nat := op.toNat % 8

/-- Table `r8` (R92). -/
def r8 (v : Nat) : Loc8 :=
  match v with
  | 0 => .reg .b
  | 1 => .reg .c
  | 2 => .reg .d
  | 3 => .reg .e
  | 4 => .reg .h
  | 5 => .reg .l
  | 6 => .memHl
  | _ => .reg .a

/-- Table `r16` (R93). -/
def r16 (p : Nat) : Pair16 :=
  match p with
  | 0 => .bc
  | 1 => .de
  | 2 => .hl
  | _ => .sp

/-- Table `r16stk` (R94). -/
def r16stk (p : Nat) : StkPair :=
  match p with
  | 0 => .bc
  | 1 => .de
  | 2 => .hl
  | _ => .af

/-- Table `cc` (R95). -/
def cc (c : Nat) : Cond :=
  match c with
  | 0 => .nz
  | 1 => .z
  | 2 => .nc
  | _ => .c

/-- Table `alu` (R96). -/
def alu (y : Nat) : AluOp :=
  match y with
  | 0 => .add
  | 1 => .adc
  | 2 => .sub
  | 3 => .sbc
  | 4 => .and
  | 5 => .xor
  | 6 => .or
  | _ => .cp

/-- Table `rot` (R97). -/
def rot (y : Nat) : RotOp :=
  match y with
  | 0 => .rlc
  | 1 => .rrc
  | 2 => .rl
  | 3 => .rr
  | 4 => .sla
  | 5 => .sra
  | 6 => .swap
  | _ => .srl

/-- The addressing form selected by `p` when z = 2 in quadrant 0 (R99). -/
def indirect (p : Nat) : Indirect :=
  match p with
  | 0 => .bc
  | 1 => .de
  | 2 => .hlInc
  | _ => .hlDec

/-- A bit number or RST index from a 3-bit field (R98). -/
def index3 (y : Nat) : Fin 8 := Fin.ofNat 8 y

/-! ## The decoder -/

/-- Quadrant x = 0 (R99); `p = y / 2`, `q = y % 2`. -/
def quadrant0 (y z : Nat) (n : Byte) (nn : Word) : Instr :=
  match z with
  | 0 =>
    match y with
    | 0 => .nop
    | 1 => .ldMemNnSp nn
    | 2 => .stop
    | 3 => .jrE n
    | y => .jrCond (cc (y - 4)) n
  | 1 =>
    match y % 2 with
    | 0 => .ldPairImm (r16 (y / 2)) nn
    | _ => .addHlPair (r16 (y / 2))
  | 2 =>
    match y % 2 with
    | 0 => .ldIndirectA (indirect (y / 2))
    | _ => .ldAIndirect (indirect (y / 2))
  | 3 =>
    match y % 2 with
    | 0 => .incPair (r16 (y / 2))
    | _ => .decPair (r16 (y / 2))
  | 4 => .incLoc (r8 y)
  | 5 => .decLoc (r8 y)
  | 6 => .ldLocImm (r8 y) n
  | _ =>
    match y with
    | 0 => .rlca
    | 1 => .rrca
    | 2 => .rla
    | 3 => .rra
    | 4 => .daa
    | 5 => .cpl
    | 6 => .scf
    | _ => .ccf

/-- Quadrant x = 3 (R102), with the undefined opcodes of R104. -/
def quadrant3 (y z : Nat) (n : Byte) (nn : Word) : Instr :=
  match z with
  | 0 =>
    match y with
    | 4 => .ldhMemNA n
    | 5 => .addSpE n
    | 6 => .ldhAMemN n
    | 7 => .ldHlSpE n
    | y => .retCond (cc y)
  | 1 =>
    match y % 2 with
    | 0 => .pop (r16stk (y / 2))
    | _ =>
      match y / 2 with
      | 0 => .ret
      | 1 => .reti
      | 2 => .jpHl
      | _ => .ldSpHl
  | 2 =>
    match y with
    | 4 => .ldhMemCA
    | 5 => .ldMemNnA nn
    | 6 => .ldhAMemC
    | 7 => .ldAMemNn nn
    | y => .jpCond (cc y) nn
  | 3 =>
    match y with
    | 0 => .jpNn nn
    | 1 => .prefixCb
    | 2 => .undefinedD3
    | 3 => .undefinedDB
    | 4 => .undefinedE3
    | 5 => .undefinedEB
    | 6 => .di
    | _ => .ei
  | 4 =>
    match y with
    | 4 => .undefinedE4
    | 5 => .undefinedEC
    | 6 => .undefinedF4
    | 7 => .undefinedFC
    | y => .callCond (cc y) nn
  | 5 =>
    match y % 2 with
    | 0 => .push (r16stk (y / 2))
    | _ =>
      match y / 2 with
      | 0 => .callNn nn
      | 1 => .undefinedDD
      | 2 => .undefinedED
      | _ => .undefinedFD
  | 6 => .aluImm (alu y) n
  | _ => .rst (index3 y)

/-- The base table (R99 to R102): the row of the opcode byte `op`, with the two bytes that follow it as immediates.
A 16-bit immediate has its low byte first (R65, R98). -/
def baseInstr (op b1 b2 : Byte) : Instr :=
  match fieldX op with
  | 0 => quadrant0 (fieldY op) (fieldZ op) b1 (joinBytes b2 b1)
  | 1 => .ldLocLoc (r8 (fieldY op)) (r8 (fieldZ op))
  | 2 => .aluLoc (alu (fieldY op)) (r8 (fieldZ op))
  | _ => quadrant3 (fieldY op) (fieldZ op) b1 (joinBytes b2 b1)

/-- The CB table (R103). -/
def cbInstr (op2 : Byte) : Instr :=
  match fieldX op2 with
  | 0 => .rotLoc (rot (fieldY op2)) (r8 (fieldZ op2))
  | 1 => .bitLoc (index3 (fieldY op2)) (r8 (fieldZ op2))
  | 2 => .resLoc (index3 (fieldY op2)) (r8 (fieldZ op2))
  | _ => .setLoc (index3 (fieldY op2)) (r8 (fieldZ op2))

/-- The instruction whose first byte is `op`, followed in the instruction stream by `b1` and `b2` (R109): total. -/
def decode3 (op b1 b2 : Byte) : Instr :=
  match baseInstr op b1 b2 with
  | .prefixCb => cbInstr b1
  | i => i

/-- Length in bytes from the first byte (R105). -/
def opcodeLength (op : Byte) : Nat :=
  if op.toNat ∈ [0x01, 0x11, 0x21, 0x31, 0x08, 0xC2, 0xCA, 0xD2, 0xDA, 0xC3, 0xC4, 0xCC, 0xD4, 0xDC, 0xCD, 0xEA, 0xFA] then 3
  else if op.toNat ∈ [0x06, 0x0E, 0x16, 0x1E, 0x26, 0x2E, 0x36, 0x3E, 0x18, 0x20, 0x28, 0x30, 0x38, 0xC6, 0xCE,
    0xD6, 0xDE, 0xE6, 0xEE, 0xF6, 0xFE, 0xE0, 0xF0, 0xE8, 0xF8, 0xCB] then 2
  else 1

/-- Why a list of bytes holds no instruction. No byte value is rejected (R104, R109): only a list that ends too early. -/
inductive DecodeReject where
  /-- There is no opcode byte. -/
  | noOpcode
  /-- The opcode asks for more bytes than the list holds. -/
  | truncated (op : Byte) (length : Nat)
deriving DecidableEq, Repr

/-- The instruction at the head of a list of bytes, and the bytes after it. -/
def decode (bytes : List Byte) : Except DecodeReject (Instr × List Byte) :=
  match bytes with
  | [] => .error .noOpcode
  | op :: rest =>
    if rest.length + 1 < opcodeLength op then .error (.truncated op (opcodeLength op))
    else .ok (decode3 op (rest.getD 0 0) (rest.getD 1 0), rest.drop (opcodeLength op - 1))

/-! ## The encoder -/

/-- The bytes of an instruction, from the rows of spec/opcode_table.json: `match` of table `base`, or 0xCB and `match` of
table `cb`, then the immediate of the row's format, low byte first (R90, R65). -/
def encode (i : Instr) : List Byte :=
  match i with
  | .nop => [0x00]
  | .ldBcNn nn => [0x01, loByte nn, hiByte nn]
  | .ldMemBcA => [0x02]
  | .incBc => [0x03]
  | .incB => [0x04]
  | .decB => [0x05]
  | .ldBN n => [0x06, n]
  | .rlca => [0x07]
  | .ldMemNnSp nn => [0x08, loByte nn, hiByte nn]
  | .addHlBc => [0x09]
  | .ldAMemBc => [0x0A]
  | .decBc => [0x0B]
  | .incC => [0x0C]
  | .decC => [0x0D]
  | .ldCN n => [0x0E, n]
  | .rrca => [0x0F]
  | .stop => [0x10]
  | .ldDeNn nn => [0x11, loByte nn, hiByte nn]
  | .ldMemDeA => [0x12]
  | .incDe => [0x13]
  | .incD => [0x14]
  | .decD => [0x15]
  | .ldDN n => [0x16, n]
  | .rla => [0x17]
  | .jrE e => [0x18, e]
  | .addHlDe => [0x19]
  | .ldAMemDe => [0x1A]
  | .decDe => [0x1B]
  | .incE => [0x1C]
  | .decE => [0x1D]
  | .ldEN n => [0x1E, n]
  | .rra => [0x1F]
  | .jrNzE e => [0x20, e]
  | .ldHlNn nn => [0x21, loByte nn, hiByte nn]
  | .ldMemHlIncA => [0x22]
  | .incHl => [0x23]
  | .incH => [0x24]
  | .decH => [0x25]
  | .ldHN n => [0x26, n]
  | .daa => [0x27]
  | .jrZE e => [0x28, e]
  | .addHlHl => [0x29]
  | .ldAMemHlInc => [0x2A]
  | .decHl => [0x2B]
  | .incL => [0x2C]
  | .decL => [0x2D]
  | .ldLN n => [0x2E, n]
  | .cpl => [0x2F]
  | .jrNcE e => [0x30, e]
  | .ldSpNn nn => [0x31, loByte nn, hiByte nn]
  | .ldMemHlDecA => [0x32]
  | .incSp => [0x33]
  | .incMemHl => [0x34]
  | .decMemHl => [0x35]
  | .ldMemHlN n => [0x36, n]
  | .scf => [0x37]
  | .jrCE e => [0x38, e]
  | .addHlSp => [0x39]
  | .ldAMemHlDec => [0x3A]
  | .decSp => [0x3B]
  | .incA => [0x3C]
  | .decA => [0x3D]
  | .ldAN n => [0x3E, n]
  | .ccf => [0x3F]
  | .ldBB => [0x40]
  | .ldBC => [0x41]
  | .ldBD => [0x42]
  | .ldBE => [0x43]
  | .ldBH => [0x44]
  | .ldBL => [0x45]
  | .ldBMemHl => [0x46]
  | .ldBA => [0x47]
  | .ldCB => [0x48]
  | .ldCC => [0x49]
  | .ldCD => [0x4A]
  | .ldCE => [0x4B]
  | .ldCH => [0x4C]
  | .ldCL => [0x4D]
  | .ldCMemHl => [0x4E]
  | .ldCA => [0x4F]
  | .ldDB => [0x50]
  | .ldDC => [0x51]
  | .ldDD => [0x52]
  | .ldDE => [0x53]
  | .ldDH => [0x54]
  | .ldDL => [0x55]
  | .ldDMemHl => [0x56]
  | .ldDA => [0x57]
  | .ldEB => [0x58]
  | .ldEC => [0x59]
  | .ldED => [0x5A]
  | .ldEE => [0x5B]
  | .ldEH => [0x5C]
  | .ldEL => [0x5D]
  | .ldEMemHl => [0x5E]
  | .ldEA => [0x5F]
  | .ldHB => [0x60]
  | .ldHC => [0x61]
  | .ldHD => [0x62]
  | .ldHE => [0x63]
  | .ldHH => [0x64]
  | .ldHL => [0x65]
  | .ldHMemHl => [0x66]
  | .ldHA => [0x67]
  | .ldLB => [0x68]
  | .ldLC => [0x69]
  | .ldLD => [0x6A]
  | .ldLE => [0x6B]
  | .ldLH => [0x6C]
  | .ldLL => [0x6D]
  | .ldLMemHl => [0x6E]
  | .ldLA => [0x6F]
  | .ldMemHlB => [0x70]
  | .ldMemHlC => [0x71]
  | .ldMemHlD => [0x72]
  | .ldMemHlE => [0x73]
  | .ldMemHlH => [0x74]
  | .ldMemHlL => [0x75]
  | .halt => [0x76]
  | .ldMemHlA => [0x77]
  | .ldAB => [0x78]
  | .ldAC => [0x79]
  | .ldAD => [0x7A]
  | .ldAE => [0x7B]
  | .ldAH => [0x7C]
  | .ldAL => [0x7D]
  | .ldAMemHl => [0x7E]
  | .ldAA => [0x7F]
  | .addAB => [0x80]
  | .addAC => [0x81]
  | .addAD => [0x82]
  | .addAE => [0x83]
  | .addAH => [0x84]
  | .addAL => [0x85]
  | .addAMemHl => [0x86]
  | .addAA => [0x87]
  | .adcAB => [0x88]
  | .adcAC => [0x89]
  | .adcAD => [0x8A]
  | .adcAE => [0x8B]
  | .adcAH => [0x8C]
  | .adcAL => [0x8D]
  | .adcAMemHl => [0x8E]
  | .adcAA => [0x8F]
  | .subAB => [0x90]
  | .subAC => [0x91]
  | .subAD => [0x92]
  | .subAE => [0x93]
  | .subAH => [0x94]
  | .subAL => [0x95]
  | .subAMemHl => [0x96]
  | .subAA => [0x97]
  | .sbcAB => [0x98]
  | .sbcAC => [0x99]
  | .sbcAD => [0x9A]
  | .sbcAE => [0x9B]
  | .sbcAH => [0x9C]
  | .sbcAL => [0x9D]
  | .sbcAMemHl => [0x9E]
  | .sbcAA => [0x9F]
  | .andAB => [0xA0]
  | .andAC => [0xA1]
  | .andAD => [0xA2]
  | .andAE => [0xA3]
  | .andAH => [0xA4]
  | .andAL => [0xA5]
  | .andAMemHl => [0xA6]
  | .andAA => [0xA7]
  | .xorAB => [0xA8]
  | .xorAC => [0xA9]
  | .xorAD => [0xAA]
  | .xorAE => [0xAB]
  | .xorAH => [0xAC]
  | .xorAL => [0xAD]
  | .xorAMemHl => [0xAE]
  | .xorAA => [0xAF]
  | .orAB => [0xB0]
  | .orAC => [0xB1]
  | .orAD => [0xB2]
  | .orAE => [0xB3]
  | .orAH => [0xB4]
  | .orAL => [0xB5]
  | .orAMemHl => [0xB6]
  | .orAA => [0xB7]
  | .cpAB => [0xB8]
  | .cpAC => [0xB9]
  | .cpAD => [0xBA]
  | .cpAE => [0xBB]
  | .cpAH => [0xBC]
  | .cpAL => [0xBD]
  | .cpAMemHl => [0xBE]
  | .cpAA => [0xBF]
  | .retNz => [0xC0]
  | .popBc => [0xC1]
  | .jpNzNn nn => [0xC2, loByte nn, hiByte nn]
  | .jpNn nn => [0xC3, loByte nn, hiByte nn]
  | .callNzNn nn => [0xC4, loByte nn, hiByte nn]
  | .pushBc => [0xC5]
  | .addAN n => [0xC6, n]
  | .rst00 => [0xC7]
  | .retZ => [0xC8]
  | .ret => [0xC9]
  | .jpZNn nn => [0xCA, loByte nn, hiByte nn]
  | .prefixCb => [0xCB]
  | .callZNn nn => [0xCC, loByte nn, hiByte nn]
  | .callNn nn => [0xCD, loByte nn, hiByte nn]
  | .adcAN n => [0xCE, n]
  | .rst08 => [0xCF]
  | .retNc => [0xD0]
  | .popDe => [0xD1]
  | .jpNcNn nn => [0xD2, loByte nn, hiByte nn]
  | .undefinedD3 => [0xD3]
  | .callNcNn nn => [0xD4, loByte nn, hiByte nn]
  | .pushDe => [0xD5]
  | .subAN n => [0xD6, n]
  | .rst10 => [0xD7]
  | .retC => [0xD8]
  | .reti => [0xD9]
  | .jpCNn nn => [0xDA, loByte nn, hiByte nn]
  | .undefinedDB => [0xDB]
  | .callCNn nn => [0xDC, loByte nn, hiByte nn]
  | .undefinedDD => [0xDD]
  | .sbcAN n => [0xDE, n]
  | .rst18 => [0xDF]
  | .ldhMemNA n => [0xE0, n]
  | .popHl => [0xE1]
  | .ldhMemCA => [0xE2]
  | .undefinedE3 => [0xE3]
  | .undefinedE4 => [0xE4]
  | .pushHl => [0xE5]
  | .andAN n => [0xE6, n]
  | .rst20 => [0xE7]
  | .addSpE e => [0xE8, e]
  | .jpHl => [0xE9]
  | .ldMemNnA nn => [0xEA, loByte nn, hiByte nn]
  | .undefinedEB => [0xEB]
  | .undefinedEC => [0xEC]
  | .undefinedED => [0xED]
  | .xorAN n => [0xEE, n]
  | .rst28 => [0xEF]
  | .ldhAMemN n => [0xF0, n]
  | .popAf => [0xF1]
  | .ldhAMemC => [0xF2]
  | .di => [0xF3]
  | .undefinedF4 => [0xF4]
  | .pushAf => [0xF5]
  | .orAN n => [0xF6, n]
  | .rst30 => [0xF7]
  | .ldHlSpE e => [0xF8, e]
  | .ldSpHl => [0xF9]
  | .ldAMemNn nn => [0xFA, loByte nn, hiByte nn]
  | .ei => [0xFB]
  | .undefinedFC => [0xFC]
  | .undefinedFD => [0xFD]
  | .cpAN n => [0xFE, n]
  | .rst38 => [0xFF]
  | .rlcB => [0xCB, 0x00]
  | .rlcC => [0xCB, 0x01]
  | .rlcD => [0xCB, 0x02]
  | .rlcE => [0xCB, 0x03]
  | .rlcH => [0xCB, 0x04]
  | .rlcL => [0xCB, 0x05]
  | .rlcMemHl => [0xCB, 0x06]
  | .rlcA => [0xCB, 0x07]
  | .rrcB => [0xCB, 0x08]
  | .rrcC => [0xCB, 0x09]
  | .rrcD => [0xCB, 0x0A]
  | .rrcE => [0xCB, 0x0B]
  | .rrcH => [0xCB, 0x0C]
  | .rrcL => [0xCB, 0x0D]
  | .rrcMemHl => [0xCB, 0x0E]
  | .rrcA => [0xCB, 0x0F]
  | .rlB => [0xCB, 0x10]
  | .rlC => [0xCB, 0x11]
  | .rlD => [0xCB, 0x12]
  | .rlE => [0xCB, 0x13]
  | .rlH => [0xCB, 0x14]
  | .rlL => [0xCB, 0x15]
  | .rlMemHl => [0xCB, 0x16]
  | .rlA => [0xCB, 0x17]
  | .rrB => [0xCB, 0x18]
  | .rrC => [0xCB, 0x19]
  | .rrD => [0xCB, 0x1A]
  | .rrE => [0xCB, 0x1B]
  | .rrH => [0xCB, 0x1C]
  | .rrL => [0xCB, 0x1D]
  | .rrMemHl => [0xCB, 0x1E]
  | .rrA => [0xCB, 0x1F]
  | .slaB => [0xCB, 0x20]
  | .slaC => [0xCB, 0x21]
  | .slaD => [0xCB, 0x22]
  | .slaE => [0xCB, 0x23]
  | .slaH => [0xCB, 0x24]
  | .slaL => [0xCB, 0x25]
  | .slaMemHl => [0xCB, 0x26]
  | .slaA => [0xCB, 0x27]
  | .sraB => [0xCB, 0x28]
  | .sraC => [0xCB, 0x29]
  | .sraD => [0xCB, 0x2A]
  | .sraE => [0xCB, 0x2B]
  | .sraH => [0xCB, 0x2C]
  | .sraL => [0xCB, 0x2D]
  | .sraMemHl => [0xCB, 0x2E]
  | .sraA => [0xCB, 0x2F]
  | .swapB => [0xCB, 0x30]
  | .swapC => [0xCB, 0x31]
  | .swapD => [0xCB, 0x32]
  | .swapE => [0xCB, 0x33]
  | .swapH => [0xCB, 0x34]
  | .swapL => [0xCB, 0x35]
  | .swapMemHl => [0xCB, 0x36]
  | .swapA => [0xCB, 0x37]
  | .srlB => [0xCB, 0x38]
  | .srlC => [0xCB, 0x39]
  | .srlD => [0xCB, 0x3A]
  | .srlE => [0xCB, 0x3B]
  | .srlH => [0xCB, 0x3C]
  | .srlL => [0xCB, 0x3D]
  | .srlMemHl => [0xCB, 0x3E]
  | .srlA => [0xCB, 0x3F]
  | .bit0B => [0xCB, 0x40]
  | .bit0C => [0xCB, 0x41]
  | .bit0D => [0xCB, 0x42]
  | .bit0E => [0xCB, 0x43]
  | .bit0H => [0xCB, 0x44]
  | .bit0L => [0xCB, 0x45]
  | .bit0MemHl => [0xCB, 0x46]
  | .bit0A => [0xCB, 0x47]
  | .bit1B => [0xCB, 0x48]
  | .bit1C => [0xCB, 0x49]
  | .bit1D => [0xCB, 0x4A]
  | .bit1E => [0xCB, 0x4B]
  | .bit1H => [0xCB, 0x4C]
  | .bit1L => [0xCB, 0x4D]
  | .bit1MemHl => [0xCB, 0x4E]
  | .bit1A => [0xCB, 0x4F]
  | .bit2B => [0xCB, 0x50]
  | .bit2C => [0xCB, 0x51]
  | .bit2D => [0xCB, 0x52]
  | .bit2E => [0xCB, 0x53]
  | .bit2H => [0xCB, 0x54]
  | .bit2L => [0xCB, 0x55]
  | .bit2MemHl => [0xCB, 0x56]
  | .bit2A => [0xCB, 0x57]
  | .bit3B => [0xCB, 0x58]
  | .bit3C => [0xCB, 0x59]
  | .bit3D => [0xCB, 0x5A]
  | .bit3E => [0xCB, 0x5B]
  | .bit3H => [0xCB, 0x5C]
  | .bit3L => [0xCB, 0x5D]
  | .bit3MemHl => [0xCB, 0x5E]
  | .bit3A => [0xCB, 0x5F]
  | .bit4B => [0xCB, 0x60]
  | .bit4C => [0xCB, 0x61]
  | .bit4D => [0xCB, 0x62]
  | .bit4E => [0xCB, 0x63]
  | .bit4H => [0xCB, 0x64]
  | .bit4L => [0xCB, 0x65]
  | .bit4MemHl => [0xCB, 0x66]
  | .bit4A => [0xCB, 0x67]
  | .bit5B => [0xCB, 0x68]
  | .bit5C => [0xCB, 0x69]
  | .bit5D => [0xCB, 0x6A]
  | .bit5E => [0xCB, 0x6B]
  | .bit5H => [0xCB, 0x6C]
  | .bit5L => [0xCB, 0x6D]
  | .bit5MemHl => [0xCB, 0x6E]
  | .bit5A => [0xCB, 0x6F]
  | .bit6B => [0xCB, 0x70]
  | .bit6C => [0xCB, 0x71]
  | .bit6D => [0xCB, 0x72]
  | .bit6E => [0xCB, 0x73]
  | .bit6H => [0xCB, 0x74]
  | .bit6L => [0xCB, 0x75]
  | .bit6MemHl => [0xCB, 0x76]
  | .bit6A => [0xCB, 0x77]
  | .bit7B => [0xCB, 0x78]
  | .bit7C => [0xCB, 0x79]
  | .bit7D => [0xCB, 0x7A]
  | .bit7E => [0xCB, 0x7B]
  | .bit7H => [0xCB, 0x7C]
  | .bit7L => [0xCB, 0x7D]
  | .bit7MemHl => [0xCB, 0x7E]
  | .bit7A => [0xCB, 0x7F]
  | .res0B => [0xCB, 0x80]
  | .res0C => [0xCB, 0x81]
  | .res0D => [0xCB, 0x82]
  | .res0E => [0xCB, 0x83]
  | .res0H => [0xCB, 0x84]
  | .res0L => [0xCB, 0x85]
  | .res0MemHl => [0xCB, 0x86]
  | .res0A => [0xCB, 0x87]
  | .res1B => [0xCB, 0x88]
  | .res1C => [0xCB, 0x89]
  | .res1D => [0xCB, 0x8A]
  | .res1E => [0xCB, 0x8B]
  | .res1H => [0xCB, 0x8C]
  | .res1L => [0xCB, 0x8D]
  | .res1MemHl => [0xCB, 0x8E]
  | .res1A => [0xCB, 0x8F]
  | .res2B => [0xCB, 0x90]
  | .res2C => [0xCB, 0x91]
  | .res2D => [0xCB, 0x92]
  | .res2E => [0xCB, 0x93]
  | .res2H => [0xCB, 0x94]
  | .res2L => [0xCB, 0x95]
  | .res2MemHl => [0xCB, 0x96]
  | .res2A => [0xCB, 0x97]
  | .res3B => [0xCB, 0x98]
  | .res3C => [0xCB, 0x99]
  | .res3D => [0xCB, 0x9A]
  | .res3E => [0xCB, 0x9B]
  | .res3H => [0xCB, 0x9C]
  | .res3L => [0xCB, 0x9D]
  | .res3MemHl => [0xCB, 0x9E]
  | .res3A => [0xCB, 0x9F]
  | .res4B => [0xCB, 0xA0]
  | .res4C => [0xCB, 0xA1]
  | .res4D => [0xCB, 0xA2]
  | .res4E => [0xCB, 0xA3]
  | .res4H => [0xCB, 0xA4]
  | .res4L => [0xCB, 0xA5]
  | .res4MemHl => [0xCB, 0xA6]
  | .res4A => [0xCB, 0xA7]
  | .res5B => [0xCB, 0xA8]
  | .res5C => [0xCB, 0xA9]
  | .res5D => [0xCB, 0xAA]
  | .res5E => [0xCB, 0xAB]
  | .res5H => [0xCB, 0xAC]
  | .res5L => [0xCB, 0xAD]
  | .res5MemHl => [0xCB, 0xAE]
  | .res5A => [0xCB, 0xAF]
  | .res6B => [0xCB, 0xB0]
  | .res6C => [0xCB, 0xB1]
  | .res6D => [0xCB, 0xB2]
  | .res6E => [0xCB, 0xB3]
  | .res6H => [0xCB, 0xB4]
  | .res6L => [0xCB, 0xB5]
  | .res6MemHl => [0xCB, 0xB6]
  | .res6A => [0xCB, 0xB7]
  | .res7B => [0xCB, 0xB8]
  | .res7C => [0xCB, 0xB9]
  | .res7D => [0xCB, 0xBA]
  | .res7E => [0xCB, 0xBB]
  | .res7H => [0xCB, 0xBC]
  | .res7L => [0xCB, 0xBD]
  | .res7MemHl => [0xCB, 0xBE]
  | .res7A => [0xCB, 0xBF]
  | .set0B => [0xCB, 0xC0]
  | .set0C => [0xCB, 0xC1]
  | .set0D => [0xCB, 0xC2]
  | .set0E => [0xCB, 0xC3]
  | .set0H => [0xCB, 0xC4]
  | .set0L => [0xCB, 0xC5]
  | .set0MemHl => [0xCB, 0xC6]
  | .set0A => [0xCB, 0xC7]
  | .set1B => [0xCB, 0xC8]
  | .set1C => [0xCB, 0xC9]
  | .set1D => [0xCB, 0xCA]
  | .set1E => [0xCB, 0xCB]
  | .set1H => [0xCB, 0xCC]
  | .set1L => [0xCB, 0xCD]
  | .set1MemHl => [0xCB, 0xCE]
  | .set1A => [0xCB, 0xCF]
  | .set2B => [0xCB, 0xD0]
  | .set2C => [0xCB, 0xD1]
  | .set2D => [0xCB, 0xD2]
  | .set2E => [0xCB, 0xD3]
  | .set2H => [0xCB, 0xD4]
  | .set2L => [0xCB, 0xD5]
  | .set2MemHl => [0xCB, 0xD6]
  | .set2A => [0xCB, 0xD7]
  | .set3B => [0xCB, 0xD8]
  | .set3C => [0xCB, 0xD9]
  | .set3D => [0xCB, 0xDA]
  | .set3E => [0xCB, 0xDB]
  | .set3H => [0xCB, 0xDC]
  | .set3L => [0xCB, 0xDD]
  | .set3MemHl => [0xCB, 0xDE]
  | .set3A => [0xCB, 0xDF]
  | .set4B => [0xCB, 0xE0]
  | .set4C => [0xCB, 0xE1]
  | .set4D => [0xCB, 0xE2]
  | .set4E => [0xCB, 0xE3]
  | .set4H => [0xCB, 0xE4]
  | .set4L => [0xCB, 0xE5]
  | .set4MemHl => [0xCB, 0xE6]
  | .set4A => [0xCB, 0xE7]
  | .set5B => [0xCB, 0xE8]
  | .set5C => [0xCB, 0xE9]
  | .set5D => [0xCB, 0xEA]
  | .set5E => [0xCB, 0xEB]
  | .set5H => [0xCB, 0xEC]
  | .set5L => [0xCB, 0xED]
  | .set5MemHl => [0xCB, 0xEE]
  | .set5A => [0xCB, 0xEF]
  | .set6B => [0xCB, 0xF0]
  | .set6C => [0xCB, 0xF1]
  | .set6D => [0xCB, 0xF2]
  | .set6E => [0xCB, 0xF3]
  | .set6H => [0xCB, 0xF4]
  | .set6L => [0xCB, 0xF5]
  | .set6MemHl => [0xCB, 0xF6]
  | .set6A => [0xCB, 0xF7]
  | .set7B => [0xCB, 0xF8]
  | .set7C => [0xCB, 0xF9]
  | .set7D => [0xCB, 0xFA]
  | .set7E => [0xCB, 0xFB]
  | .set7H => [0xCB, 0xFC]
  | .set7L => [0xCB, 0xFD]
  | .set7MemHl => [0xCB, 0xFE]
  | .set7A => [0xCB, 0xFF]

/-! ## The host's numbering -/

/-- The `k`-th byte of a word whose bit 0 is the least significant bit of the first byte. -/
def tableByte (nbits w k : Nat) : Byte := BitVec.ofNat 8 (w % 2 ^ nbits / 2 ^ (8 * k))

/-- What the decoder reads from the `nbits` bits `w`, the bits above them zero, first byte lowest (log entry 21). -/
def decodeTableWord (nbits w : Nat) : Option Instr :=
  match decode [tableByte nbits w 0, tableByte nbits w 1, tableByte nbits w 2] with
  | .ok (i, _) => some i
  | .error _ => none

end Sys2Proof
end

