-- ==== Sys2Proof/Config.lean ====
section
/-! DEFINITION. The parameters of the model that are fixed when a CORE is created (00_scope.md R7). -/

namespace Sys2Proof

/-- `ResetState`: the register and controller values at creation (R7, R450).
The spec leaves the record open (decision D2); see log entry 3. -/
structure ResetState where
  a : Byte
  f : Byte
  b : Byte
  c : Byte
  d : Byte
  e : Byte
  h : Byte
  l : Byte
  sp : Word
  pc : Word
  ime : Bool
  imeSched : Bool
  haltActive : Bool
  haltBug : Bool
  doubleSpeed : Bool
  prepareSwitch : Bool
deriving DecidableEq, Repr

/-- "`F` of `ResetState` must have a zero low nibble" (R450). -/
def ResetState.wf (r : ResetState) : Bool := r.f &&& 0x0F#8 == 0#8

/-- The default record of R450: all registers zero, all flags false.
DESIGN CHOICE (the spec's decision D2, log entry 3). -/
def ResetState.default : ResetState where
  a := 0
  f := 0
  b := 0
  c := 0
  d := 0
  e := 0
  h := 0
  l := 0
  sp := 0
  pc := 0
  ime := false
  imeSched := false
  haltActive := false
  haltBug := false
  doubleSpeed := false
  prepareSwitch := false

/-- `HAS_KEY1` of the machine that `State.reset` creates. The spec leaves the parameter open (decision D1):
`State.create` takes it as an argument, and a statement over all states covers both values.
DESIGN CHOICE (log entry 4). -/
def Config.resetHasKey1 : Bool := true

/-- `TraceCallback` (R7): an "optional function" that "receives the mnemonic about to execute". `α` is what the function acts on,
the host's own data and no state of the machine: "observational only, zero effect on correctness". -/
abbrev TraceCallback (α : Type) : Type := Option (String → α → α)

/-- FREE VALUE (log entry 15). Whether the trace callback receives the full mnemonic of a CB-prefixed instruction or the prefix's:
"not stated" (41_sequencer.md R186; 91_not_in_source.md N15), so the model fixes neither. -/
opaque Config.traceGivesFullCb : Bool

end Sys2Proof
end

