-- ==== Sys2Proof/Machine/State.lean ====
section
/-! DEFINITION. The state of the machine: the tuple of 10_state.md R37, KEY1 on the variant that has it (R35), and the
bytes behind the bus, among them IF and IE (R36, 20_memory.md R78). -/

namespace Sys2Proof.Machine

/-- The five interrupt sources, in priority order (60_exceptions.md R401). -/
inductive IrqSource where
  | vblank | lcdStat | timer | serial | joypad
deriving DecidableEq, Repr

/-- A pipeline template (R28, R180): the row of the base table for an opcode, the row of the CB table for a second byte,
or the dispatch pipeline of an interrupt source (60_exceptions.md R408). -/
inductive Template where
  | base (op : Byte)
  | cb (op2 : Byte)
  | dispatch (k : IrqSource)
deriving DecidableEq, Repr

/-- A pipeline in flight (R28): its template and the number of the next row to run. -/
structure Pipe where
  template : Template
  row : Nat
deriving DecidableEq, Repr

/-- The KEY1 fields, `DOUBLE_SPEED` and `PREPARE_SWITCH` (R35). -/
structure Key1 where
  doubleSpeed : Bool
  prepareSwitch : Bool
deriving DecidableEq, Repr

/-- The machine's state (R37). -/
structure State where
  /-- The accumulator `A` (R20). -/
  a : Byte
  /-- The flag register `F`: Z, N, H, C in bits 7 to 4; bits 3 to 0 are always zero (R21). -/
  f : Byte
  /-- `B` (R20). -/
  b : Byte
  /-- `C` (R20). -/
  c : Byte
  /-- `D` (R20). -/
  d : Byte
  /-- `E` (R20). -/
  e : Byte
  /-- `H` (R20). -/
  h : Byte
  /-- `L` (R20). -/
  l : Byte
  /-- The stack pointer (R24). -/
  sp : Word
  /-- The program counter (R25). -/
  pc : Word
  /-- `IME` (R31). -/
  ime : Bool
  /-- `IME_SCHED` (R32). -/
  imeSched : Bool
  /-- `HALT_ACTIVE` (R33). -/
  haltActive : Bool
  /-- `HALT_BUG` (R34). -/
  haltBug : Bool
  /-- `PIPE` (R28): `none` at an instruction boundary. -/
  pipe : Option Pipe
  /-- `SCRATCH` (R29), the top of the stack first. -/
  scratch : List Byte
  /-- KEY1 (R35): `none` on base hardware (`HAS_KEY1 = false`), where the fields do not exist. -/
  key1 : Option Key1
  /-- The bytes behind the bus (R36, 20_memory.md R78): addresses strictly rising, no byte listed that equals what an
  unlisted address reads as. `IF` and `IE` are the bytes at 0xFF0F and 0xFFFF. -/
  mem : List Host.Cell
deriving DecidableEq, Repr

/-- Why a step can stop. "No operation in this component is fallible" (41_sequencer.md R185): both reasons are the
engine-invariant violations of R39 and R461, which "must be unrecoverable (fail fast)". Raised by `cycle` only, in
states that `Safety.lean`'s `PipeInv` rules out. Safe: the model stops where the spec names no next state. -/
inductive Fault where
  /-- A row takes more bytes from the scratch stack than it holds (R39, R461). Safe. -/
  | scratchUnderflow
  /-- The cursor of `PIPE` names no row of its template (R39, R461). Safe. -/
  | danglingCursor
deriving DecidableEq, Repr

/-- Why an instruction has no meaning in the model. -/
inductive Refusal where
  /-- Raised by a refused arm of `exec` only; no arm is refused. Safe. -/
  | notModelled (mnemonic : String)
deriving DecidableEq, Repr

/-- The state after creation of a CORE (70_reset_and_hazards.md R450), with the bus content `mem` around it. -/
def State.create (hasKey1 : Bool) (r : ResetState) (mem : List Host.Cell) : State where
  a := r.a
  f := r.f
  b := r.b
  c := r.c
  d := r.d
  e := r.e
  h := r.h
  l := r.l
  sp := r.sp
  pc := r.pc
  ime := r.ime
  imeSched := r.imeSched
  haltActive := r.haltActive
  haltBug := r.haltBug
  pipe := none
  scratch := []
  key1 := if hasKey1 then some ⟨r.doubleSpeed, r.prepareSwitch⟩ else none
  mem := mem

/-- The machine right after reset (R450, R40): the default `ResetState`, no memory listed (log entries 2, 3, 4). -/
def State.reset : State := State.create Config.resetHasKey1 ResetState.default []

end Sys2Proof.Machine
end

