-- ==== Sys2Proof/Machine/Flags.lean ====
section
/-! DEFINITION. The ALU functions and flag laws of 40_alu.md (R120 to R151): pure and total, a result and a flag tuple
`(z, n, h, c)` from operands and incoming flags. -/

namespace Sys2Proof.Machine

/-- A flag tuple; `none` is the `-` that keeps the flag (R120). -/
structure FlagTuple where
  z : Option Bool
  n : Option Bool
  h : Option Bool
  c : Option Bool
deriving DecidableEq, Repr

/-- Z is bit 7 of `F` (R21). -/
def flagZ (f : Byte) : Bool := f.getLsbD 7
/-- N is bit 6 of `F` (R21). -/
def flagN (f : Byte) : Bool := f.getLsbD 6
/-- H is bit 5 of `F` (R21). -/
def flagH (f : Byte) : Bool := f.getLsbD 5
/-- C is bit 4 of `F` (R21). -/
def flagC (f : Byte) : Bool := f.getLsbD 4

/-- `z*0x80 + n*0x40 + h*0x20 + c*0x10` (R9). -/
def packFlags (z n h c : Bool) : Byte :=
  (if z then 0x80#8 else 0#8) ||| (if n then 0x40#8 else 0#8) ||| (if h then 0x20#8 else 0#8) |||
    (if c then 0x10#8 else 0#8)

/-- `flags <- t` on the old `F` (R9): a `-` keeps the old bit, the low nibble is zero. -/
def FlagTuple.applyTo (t : FlagTuple) (f : Byte) : Byte :=
  packFlags (t.z.getD (flagZ f)) (t.n.getD (flagN f)) (t.h.getD (flagH f)) (t.c.getD (flagC f))

/-- A `bool` as 0 or 1. -/
def bit01 (b : Bool) : Byte := if b then 1#8 else 0#8

/-- `((res ^ a ^ b) & 0x10) != 0`: the carry or borrow between bits 3 and 4 (R122). -/
def halfCarry (res a b : Byte) : Bool := (res ^^^ a ^^^ b) &&& 0x10#8 != 0#8

/-! ## Eight-bit add and subtract -/

/-- `add8` (R122). -/
def add8 (a b : Byte) : Byte × FlagTuple :=
  let s := a.toNat + b.toNat
  let res := BitVec.ofNat 8 s
  (res, ⟨some (res == 0#8), some false, some (halfCarry res a b), some (decide (s > 255))⟩)

/-- `adc8` (R123). -/
def adc8 (a b : Byte) (cin : Bool) : Byte × FlagTuple :=
  let s := a.toNat + b.toNat + cin.toNat
  let res := BitVec.ofNat 8 s
  (res, ⟨some (res == 0#8), some false, some (halfCarry res a b), some (decide (s > 255))⟩)

/-- `sub8` (R124). -/
def sub8 (a b : Byte) : Byte × FlagTuple :=
  let dif : Int := (a.toNat : Int) - b.toNat
  let res := BitVec.ofInt 8 dif
  (res, ⟨some (res == 0#8), some true, some (halfCarry res a b), some (decide (dif < 0))⟩)

/-- `sbc8` (R125). -/
def sbc8 (a b : Byte) (cin : Bool) : Byte × FlagTuple :=
  let dif : Int := (a.toNat : Int) - b.toNat - cin.toNat
  let res := BitVec.ofInt 8 dif
  (res, ⟨some (res == 0#8), some true, some (halfCarry res a b), some (decide (dif < 0))⟩)

/-! ## Eight-bit logic -/

/-- `and8` (R127). -/
def and8 (a b : Byte) : Byte × FlagTuple := (a &&& b, ⟨some (a &&& b == 0#8), some false, some true, some false⟩)

/-- `or8` (R127). -/
def or8 (a b : Byte) : Byte × FlagTuple := (a ||| b, ⟨some (a ||| b == 0#8), some false, some false, some false⟩)

/-- `xor8` (R127). -/
def xor8 (a b : Byte) : Byte × FlagTuple := (a ^^^ b, ⟨some (a ^^^ b == 0#8), some false, some false, some false⟩)

/-- The function named by an entry of table `alu` (R96, R250). `CP` is `sub8` whose result byte is discarded (R126):
here the result byte is `a`, so that writing it changes nothing. -/
def aluApply (op : AluOp) (a b : Byte) (cin : Bool) : Byte × FlagTuple :=
  match op with
  | .add => add8 a b
  | .adc => adc8 a b cin
  | .sub => sub8 a b
  | .sbc => sbc8 a b cin
  | .and => and8 a b
  | .xor => xor8 a b
  | .or => or8 a b
  | .cp => (a, (sub8 a b).2)

/-! ## Increment and decrement -/

/-- `inc8` (R128). -/
def inc8 (v : Byte) : Byte × FlagTuple :=
  (v + 1#8, ⟨some (v + 1#8 == 0#8), some false, some (v &&& 0x0F#8 == 0x0F#8), none⟩)

/-- `dec8` (R128). -/
def dec8 (v : Byte) : Byte × FlagTuple :=
  (v - 1#8, ⟨some (v - 1#8 == 0#8), some true, some (v &&& 0x0F#8 == 0#8), none⟩)

/-- `inc16` (R129). -/
def inc16 (w : Word) : Word := w + 1#16

/-- `dec16` (R129). -/
def dec16 (w : Word) : Word := w - 1#16

/-! ## Rotates and shifts: result and `cout` (R131 to R138) -/

/-- `rlc8` (R131). -/
def rlc8 (v : Byte) : Byte × Bool := (v <<< 1 ||| bit01 (v.getLsbD 7), v.getLsbD 7)

/-- `rrc8` (R132). -/
def rrc8 (v : Byte) : Byte × Bool := (v >>> 1 ||| bit01 (v.getLsbD 0) <<< 7, v.getLsbD 0)

/-- `rl8` (R133). -/
def rl8 (v : Byte) (cin : Bool) : Byte × Bool := (v <<< 1 ||| bit01 cin, v.getLsbD 7)

/-- `rr8` (R134). -/
def rr8 (v : Byte) (cin : Bool) : Byte × Bool := (v >>> 1 ||| bit01 cin <<< 7, v.getLsbD 0)

/-- `sla8` (R135). -/
def sla8 (v : Byte) : Byte × Bool := (v <<< 1, v.getLsbD 7)

/-- `sra8` (R136). -/
def sra8 (v : Byte) : Byte × Bool := (v >>> 1 ||| v &&& 0x80#8, v.getLsbD 0)

/-- `srl8` (R137). -/
def srl8 (v : Byte) : Byte × Bool := (v >>> 1, v.getLsbD 0)

/-- `swap8` (R138). -/
def swap8 (v : Byte) : Byte × Bool := (v <<< 4 ||| v >>> 4, false)

/-- The function named by an entry of table `rot` (R97). -/
def rotShift (o : RotOp) (v : Byte) (cin : Bool) : Byte × Bool :=
  match o with
  | .rlc => rlc8 v
  | .rrc => rrc8 v
  | .rl => rl8 v cin
  | .rr => rr8 v cin
  | .sla => sla8 v
  | .sra => sra8 v
  | .swap => swap8 v
  | .srl => srl8 v

/-- A CB-prefixed rotate or shift: flags `(res = 0, 0, 0, cout)` (R130). -/
def rotApply (o : RotOp) (v : Byte) (cin : Bool) : Byte × FlagTuple :=
  ((rotShift o v cin).1, ⟨some ((rotShift o v cin).1 == 0#8), some false, some false, some (rotShift o v cin).2⟩)

/-- The function behind a rotate of `A` (R139). -/
def accShift (o : AccRot) (v : Byte) (cin : Bool) : Byte × Bool :=
  match o with
  | .rlca => rlc8 v
  | .rrca => rrc8 v
  | .rla => rl8 v cin
  | .rra => rr8 v cin

/-- A rotate of `A`: flags `(0, 0, 0, cout)`, Z never set (R139). -/
def accApply (o : AccRot) (v : Byte) (cin : Bool) : Byte × FlagTuple :=
  ((accShift o v cin).1, ⟨some false, some false, some false, some (accShift o v cin).2⟩)

/-! ## Bit operations -/

/-- The flags of `bit(b, v)` (R140). -/
def bitFlags (n : Fin 8) (v : Byte) : FlagTuple := ⟨some (v.getLsbD n == false), some false, some true, none⟩

/-- `set(b, v)` (R141). -/
def setBit (n : Fin 8) (v : Byte) : Byte := v ||| 1#8 <<< n.val

/-- `res(b, v)` (R141). -/
def resBit (n : Fin 8) (v : Byte) : Byte := v &&& ~~~(1#8 <<< n.val)

/-! ## Accumulator and flag adjustments -/

/-- The correction byte of `daa` (R142): both tests use the incoming `a`. -/
def daaCorrection (a : Byte) (n h c : Bool) : Byte :=
  (if h || (!n && decide ((a &&& 0x0F#8).toNat > 0x09)) then 0x06#8 else 0#8) |||
    (if c || (!n && decide (a.toNat > 0x99)) then 0x60#8 else 0#8)

/-- `daa` (R142). -/
def daa8 (a : Byte) (n h c : Bool) : Byte × FlagTuple :=
  let res := if n then a - daaCorrection a n h c else a + daaCorrection a n h c
  (res, ⟨some (res == 0#8), none, some false, some (c || (!n && decide (a.toNat > 0x99)))⟩)

/-- `cpl` (R143). -/
def cpl8 (a : Byte) : Byte × FlagTuple := (a ^^^ 0xFF#8, ⟨none, some true, some true, none⟩)

/-- The flags of `scf` (R144). -/
def scfFlags : FlagTuple := ⟨none, some false, some false, some true⟩

/-- The flags of `ccf` with the incoming carry (R144). -/
def ccfFlags (c : Bool) : FlagTuple := ⟨none, some false, some false, some (!c)⟩

/-! ## Sixteen-bit arithmetic -/

/-- `sext_16` (R148, R8): `e` below 128, else `e + 0xFF00`. -/
def sext16 (e : Byte) : Word := if e.toNat < 128 then BitVec.ofNat 16 e.toNat else BitVec.ofNat 16 (e.toNat + 0xFF00)

/-- `add16` (R145). -/
def add16 (hl w : Word) : Word × FlagTuple :=
  (hl + w, ⟨none, some false, some (decide ((hl &&& 0x0FFF#16).toNat + (w &&& 0x0FFF#16).toNat > 0x0FFF)),
    some (decide (hl.toNat + w.toNat > 0xFFFF))⟩)

/-- `addsp` (R146): H and C from the unsigned addition of the low byte of `SP` and the displacement byte. -/
def addsp (sp : Word) (e : Byte) : Word × FlagTuple :=
  (sp + sext16 e, ⟨some false, some false, some (decide ((sp &&& 0x000F#16).toNat + (e &&& 0x0F#8).toNat > 0x0F)),
    some (decide ((sp &&& 0x00FF#16).toNat + e.toNat > 0xFF))⟩)

end Sys2Proof.Machine
end

