-- ==== Sys2Proof/Machine/Ops.lean ====
section
/-! DEFINITION. The named operations over memory and registers: the reference memory and the bus (20_memory.md), the stack,
the fetch of an instruction's bytes (41_sequencer.md), retire, and the interrupt controller with the dispatch of an
interrupt (60_exceptions.md). Every operation on a state is one record update. -/

namespace Sys2Proof.Machine

/-- What a meaning answers. -/
abbrev Result := Host.Outcome State Fault Refusal

/-! ## The reference memory (R78) -/

/-- What an address reads as that nothing has written: "initially the byte the vector states, else `0x00`" (R78; the
spec's test fixture, decision D6). DESIGN CHOICE (log entry 2). -/
def unlistedByte : Byte := 0#8

/-- The byte at `a`. -/
def memRead (m : List Host.Cell) (a : Nat) : Byte :=
  match m with
  | [] => unlistedByte
  | (k, v) :: rest => if a = k then v else memRead rest a

/-- The memory with `v` at `a`, in canonical form. -/
def memWrite (m : List Host.Cell) (a : Nat) (v : Byte) : List Host.Cell :=
  match m with
  | [] => if v = unlistedByte then [] else [(a, v)]
  | (k, w) :: rest =>
    if a < k then (if v = unlistedByte then (k, w) :: rest else (a, v) :: (k, w) :: rest)
    else if a = k then (if v = unlistedByte then rest else (a, v) :: rest)
    else (k, w) :: memWrite rest a v

/-- Addresses from `lo` on, strictly rising, below 65536, none holding what an unlisted address reads as. -/
def memWfFrom (lo : Nat) (m : List Host.Cell) : Bool :=
  match m with
  | [] => true
  | (k, v) :: rest => decide (lo ≤ k) && decide (k < 65536) && decide (v ≠ unlistedByte) && memWfFrom (k + 1) rest

/-- The canonical form of memory. -/
def Memory.wf (m : List Host.Cell) : Bool := memWfFrom 0 m

/-! ## Fixed addresses (R71) -/

/-- `IF` (R402). -/
def ifAddr : Word := 0xFF0F#16
/-- `IE` (R403). -/
def ieAddr : Word := 0xFFFF#16
/-- KEY1, on the variant (R419). -/
def key1Addr : Word := 0xFF4D#16

/-! ## KEY1 (R419) -/

/-- `Key1Read`: `(DOUBLE_SPEED << 7) | 0x7E | PREPARE_SWITCH`. -/
def Key1.read (k : Key1) : Byte := bit01 k.doubleSpeed <<< 7 ||| 0x7E#8 ||| bit01 k.prepareSwitch

/-- `Key1Write v`: `PREPARE_SWITCH <- v[0]`, nothing else. -/
def Key1.write (k : Key1) (v : Byte) : Key1 := { k with prepareSwitch := v.getLsbD 0 }

/-! ## The bus (R61, R62) -/

/-- The address is KEY1's and the machine has KEY1: the bus routes the access to the CORE (R419; log entry 17). -/
def State.isKey1 (s : State) (addr : Word) : Bool := decide (addr = key1Addr) && s.key1.isSome

/-- `MemRead(addr, 1)` (R61). -/
def State.read (s : State) (addr : Word) : Byte :=
  if addr = key1Addr then
    match s.key1 with
    | some k => k.read
    | none => memRead s.mem addr.toNat
  else memRead s.mem addr.toNat

/-- `MemWrite(addr, 1, v)` (R62). -/
def State.write (s : State) (addr : Word) (v : Byte) : State :=
  { s with
    key1 := if s.isKey1 addr then s.key1.map (·.write v) else s.key1
    mem := if s.isKey1 addr then s.mem else memWrite s.mem addr.toNat v }

/-! ## Flags of the state -/

/-- `fZ` (R9). -/
def State.fZ (s : State) : Bool := flagZ s.f
/-- `fN` (R9). -/
def State.fN (s : State) : Bool := flagN s.f
/-- `fH` (R9). -/
def State.fH (s : State) : Bool := flagH s.f
/-- `fC` (R9). -/
def State.fC (s : State) : Bool := flagC s.f

/-- `flags <- t` (R9). -/
def State.setFlags (s : State) (t : FlagTuple) : State := { s with f := t.applyTo s.f }

/-! ## The stack (R66, R230) -/

/-- `SP <- SP - 1`, then a write at `SP`. -/
def State.pushByte (s : State) (v : Byte) : State :=
  State.write { s with sp := s.sp - 1#16 } (s.sp - 1#16) v

/-- `SP <- SP + 1`, after a read at `SP` (the byte read is `s.read s.sp`). -/
def State.dropByte (s : State) : State := { s with sp := s.sp + 1#16 }

/-- A push of a word: high byte first (R66). -/
def State.pushWord (s : State) (w : Word) : State := (s.pushByte (hiByte w)).pushByte (loByte w)

/-- The word a pop reads: low byte at `SP`, high byte at `SP + 1` (R66). -/
def State.topWord (s : State) : Word := joinBytes (s.read (s.sp + 1#16)) (s.read s.sp)

/-- `SP` raised by 2. -/
def State.dropWord (s : State) : State := s.dropByte.dropByte

/-! ## Fetching an instruction's bytes (R174, R175) -/

/-- The program counter after the opcode fetch: the halt bug leaves it where it is (R174). -/
def State.pcAfterOpcode (s : State) : Word := if s.haltBug then s.pc else s.pc + 1#16

/-- The opcode fetch's effect on `PC` and `HALT_BUG` (R174). -/
def State.pastOpcode (s : State) : State := { s with pc := s.pcAfterOpcode, haltBug := false }

/-- A `paramByte`'s effect on `PC` (R175). -/
def State.pastParam (s : State) : State := { s with pc := s.pc + 1#16 }

/-- The state after all `len` bytes of an instruction have been read. -/
def State.past (s : State) (len : Nat) : State :=
  match len with
  | 0 => s
  | 1 => s.pastOpcode
  | n + 1 => (s.past n).pastParam

/-- The instruction that a fetch from `s` reads (R174 to R176): the opcode at `PC`, the following bytes at the program
counter after the opcode fetch. -/
def State.fetchInstr (s : State) : Instr :=
  decode3 (s.read s.pc) (s.read s.pcAfterOpcode) (s.read (s.pcAfterOpcode + 1#16))

/-! ## Retire (R181) -/

/-- Whether the retire of `i` commits a scheduled enable: every instruction but `EI` (R181). -/
def commitsEnable (i : Instr) : Bool :=
  match i with
  | .ei => false
  | _ => true

/-- Retire (R181): the EI commit when `commits`, then `SCRATCH` empty and `PIPE` none. -/
def State.retire (s : State) (commits : Bool) : State :=
  { s with
    ime := if commits && s.imeSched then true else s.ime
    imeSched := if commits && s.imeSched then false else s.imeSched
    scratch := []
    pipe := none }

/-! ## The interrupt controller -/

/-- The bit number `k` of a source in `IF` and `IE` (R401). -/
def IrqSource.bit (k : IrqSource) : Nat :=
  match k with
  | .vblank => 0
  | .lcdStat => 1
  | .timer => 2
  | .serial => 3
  | .joypad => 4

/-- The vector `0x0040 + 8k` (R401). -/
def IrqSource.vector (k : IrqSource) : Word := 0x0040#16 + BitVec.ofNat 16 (8 * k.bit)

/-- `IFv` (R9, R76): a sideband read. -/
def State.ifv (s : State) : Byte := s.read ifAddr
/-- `IEv` (R9, R76): a sideband read. -/
def State.iev (s : State) : Byte := s.read ieAddr

/-- `ALL_MASK`: the five sources (R404). -/
def allMask : Byte := 0x1F#8

/-- The pending set `IEv & IFv & ALL_MASK` (R404). -/
def State.pend (s : State) : Byte := s.iev &&& s.ifv &&& allMask

/-- The source with the lowest set bit number (R407). -/
def highestPriority (pend : Byte) : Option IrqSource :=
  if pend.getLsbD 0 then some .vblank
  else if pend.getLsbD 1 then some .lcdStat
  else if pend.getLsbD 2 then some .timer
  else if pend.getLsbD 3 then some .serial
  else if pend.getLsbD 4 then some .joypad
  else none

/-- What a call that finds `PIPE = none` does (R172, R426). -/
inductive Boundary where
  | idle
  | dispatch (k : IrqSource)
  | fetch
deriving DecidableEq, Repr

/-- The boundary decision (R172, R406, R426). -/
def State.boundary (s : State) : Boundary :=
  if s.haltActive && s.pend == 0#8 then .idle
  else if s.ime then
    match highestPriority s.pend with
    | some k => .dispatch k
    | none => .fetch
  else .fetch

/-- `HALT_ACTIVE <- false` (R415); it changes nothing in a running machine. -/
def State.woken (s : State) : State := { s with haltActive := false }

/-- What the first row of a dispatch does at the boundary before its write (R408): the one flag bit cleared as one
indivisible update (R76), `IME` and `IME_SCHED` cleared. -/
def State.enterDispatch (s : State) (k : IrqSource) : State :=
  { s with
    mem := memWrite s.mem ifAddr.toNat (s.ifv &&& ~~~(1#8 <<< k.bit))
    ime := false
    imeSched := false }

/-- TAKING AN INTERRUPT (R408): the flag bit cleared, `IME` and `IME_SCHED` cleared, `PC` pushed, `PC` at the vector;
nothing else is saved. The pipeline then ends without the EI commit (R181). -/
def State.takeInterrupt (s : State) (k : IrqSource) : State :=
  { (s.enterDispatch k).pushWord s.pc with pc := k.vector, scratch := [], pipe := none }

/-- THE RETURN FROM AN INTERRUPT HANDLER (R358, R360, R412): `PC` popped; `RETI` also sets `IME`, with no delay. Nothing else
is restored because nothing else was saved. -/
def State.returnTo (s : State) (enable : Bool) : State :=
  { s.dropWord with pc := s.topWord, ime := if enable then true else s.ime }

end Sys2Proof.Machine
end

