-- ==== Sys2Proof/Machine/Operands.lean ====
section
/-! DEFINITION. Every operand form: registers and pair views (10_state.md R20 to R24), the locations of table `r8` (R92),
the conditions of table `cc` (R95), and the effective addresses of 42_load8.md (R200). -/

namespace Sys2Proof.Machine

/-- Read of an 8-bit register (R9). -/
def State.reg (s : State) (r : Reg8) : Byte :=
  match r with
  | .b => s.b
  | .c => s.c
  | .d => s.d
  | .e => s.e
  | .h => s.h
  | .l => s.l
  | .a => s.a

/-- Write of an 8-bit register (R9). -/
def State.setReg (s : State) (r : Reg8) (v : Byte) : State :=
  match r with
  | .b => { s with b := v }
  | .c => { s with c := v }
  | .d => { s with d := v }
  | .e => { s with e := v }
  | .h => { s with h := v }
  | .l => { s with l := v }
  | .a => { s with a := v }

/-- `BC = {B, C}` (R23). -/
def State.bc (s : State) : Word := joinBytes s.b s.c
/-- `DE = {D, E}` (R23). -/
def State.de (s : State) : Word := joinBytes s.d s.e
/-- `HL = {H, L}` (R23). -/
def State.hl (s : State) : Word := joinBytes s.h s.l
/-- `AF = {A, F}` (R23). -/
def State.af (s : State) : Word := joinBytes s.a s.f

/-- Read of `r16[p]` (R93). -/
def State.pair (s : State) (p : Pair16) : Word :=
  match p with
  | .bc => s.bc
  | .de => s.de
  | .hl => s.hl
  | .sp => s.sp

/-- Write of `r16[p]`: both halves of a pair (R23). -/
def State.setPair (s : State) (p : Pair16) (w : Word) : State :=
  match p with
  | .bc => { s with b := hiByte w, c := loByte w }
  | .de => { s with d := hiByte w, e := loByte w }
  | .hl => { s with h := hiByte w, l := loByte w }
  | .sp => { s with sp := w }

/-- Read of `r16stk[p]` (R94). -/
def State.stk (s : State) (q : StkPair) : Word :=
  match q with
  | .bc => s.bc
  | .de => s.de
  | .hl => s.hl
  | .af => s.af

/-- Write of `r16stk[p]`; a write of `AF` masks the low byte with 0xF0 (R23, R21). -/
def State.setStk (s : State) (q : StkPair) (w : Word) : State :=
  match q with
  | .bc => { s with b := hiByte w, c := loByte w }
  | .de => { s with d := hiByte w, e := loByte w }
  | .hl => { s with h := hiByte w, l := loByte w }
  | .af => { s with a := hiByte w, f := loByte w &&& 0xF0#8 }

/-- Read of an entry of table `r8`: a register, or the byte at `HL` (R92). -/
def State.loc (s : State) (x : Loc8) : Byte :=
  match x with
  | .reg r => s.reg r
  | .memHl => s.read s.hl

/-- Write of an entry of table `r8` (R92). -/
def State.setLoc (s : State) (x : Loc8) (v : Byte) : State :=
  match x with
  | .reg r => s.setReg r v
  | .memHl => s.write s.hl v

/-- A condition of table `cc` (R95). -/
def State.cond (s : State) (k : Cond) : Bool :=
  match k with
  | .nz => !s.fZ
  | .z => s.fZ
  | .nc => !s.fC
  | .c => s.fC

/-- The high-page address `0xFF00 + n = {0xFF, n}` (R212, R214): no carry into the high byte. -/
def highPage (n : Byte) : Word := joinBytes 0xFF#8 n

/-- The address of a register-indirect form (R200). -/
def State.indirectAddr (s : State) (m : Indirect) : Word :=
  match m with
  | .bc => s.bc
  | .de => s.de
  | .hlInc => s.hl
  | .hlDec => s.hl

/-- The post-increment or post-decrement of `HL` (R216 to R219). -/
def State.indirectStep (s : State) (m : Indirect) : State :=
  match m with
  | .bc => s
  | .de => s
  | .hlInc => s.setPair .hl (s.hl + 1#16)
  | .hlDec => s.setPair .hl (s.hl - 1#16)

end Sys2Proof.Machine
end

