-- ==== Sys2Proof/Machine/RotateBit.lean ====
section
/-! DEFINITION. The rotates, shifts and bit operations of 46_rotate_bit.md (R310 to R336): the four rotates of `A`, and the
CB-prefixed forms on an entry of table `r8` (a register or the byte at `HL`). -/

namespace Sys2Proof.Machine

/-! ## Shared operations -/

/-- `RLCA`, `RRCA`, `RLA`, `RRA` (R311 to R314). -/
def rotateA (o : AccRot) (s : State) : State :=
  ((s.past 1).setReg .a (accApply o s.a s.fC).1).setFlags (accApply o s.a s.fC).2

/-- "apply" and the write-back of R310, for a rotate or shift. -/
def State.rotate (s : State) (o : RotOp) (x : Loc8) : State :=
  (s.setFlags (rotApply o (s.loc x) s.fC).2).setLoc x (rotApply o (s.loc x) s.fC).1

/-- `BIT b` on a value (R331, R332): flags only. -/
def State.testBit (s : State) (n : Fin 8) (x : Loc8) : State := s.setFlags (bitFlags n (s.loc x))

/-- `RES b` (R333, R334): no flag. -/
def State.clearBit (s : State) (n : Fin 8) (x : Loc8) : State := s.setLoc x (resBit n (s.loc x))

/-- `SET b` (R335, R336): no flag. -/
def State.raiseBit (s : State) (n : Fin 8) (x : Loc8) : State := s.setLoc x (setBit n (s.loc x))

/-- A CB-prefixed rotate or shift (R315 to R330). -/
def rotateLoc (o : RotOp) (x : Loc8) (s : State) : State := (s.past 2).rotate o x

/-- `BIT b` (R331, R332). -/
def testBitLoc (n : Fin 8) (x : Loc8) (s : State) : State := (s.past 2).testBit n x

/-- `RES b` (R333, R334). -/
def resetBitLoc (n : Fin 8) (x : Loc8) (s : State) : State := (s.past 2).clearBit n x

/-- `SET b` (R335, R336). -/
def setBitLoc (n : Fin 8) (x : Loc8) (s : State) : State := (s.past 2).raiseBit n x

/-- The work of the CB table's row for `op2`, after both bytes have been read (R103, R376). -/
def State.cbWork (s : State) (op2 : Byte) : State :=
  match fieldX op2 with
  | 0 => s.rotate (rot (fieldY op2)) (r8 (fieldZ op2))
  | 1 => s.testBit (index3 (fieldY op2)) (r8 (fieldZ op2))
  | 2 => s.clearBit (index3 (fieldY op2)) (r8 (fieldZ op2))
  | _ => s.raiseBit (index3 (fieldY op2)) (r8 (fieldZ op2))

/-! ## One definition per instruction -/

/-- `RLCA` (0x07, R311). -/
def execRlca (s : State) : Result := .next (rotateA .rlca s)

/-- `RRCA` (0x0F, R312). -/
def execRrca (s : State) : Result := .next (rotateA .rrca s)

/-- `RLA` (0x17, R313). -/
def execRla (s : State) : Result := .next (rotateA .rla s)

/-- `RRA` (0x1F, R314). -/
def execRra (s : State) : Result := .next (rotateA .rra s)

/-- `RLC B` (0xCB 0x00, R315). -/
def execRlcB (s : State) : Result := .next (rotateLoc .rlc (.reg .b) s)

/-- `RLC C` (0xCB 0x01, R315). -/
def execRlcC (s : State) : Result := .next (rotateLoc .rlc (.reg .c) s)

/-- `RLC D` (0xCB 0x02, R315). -/
def execRlcD (s : State) : Result := .next (rotateLoc .rlc (.reg .d) s)

/-- `RLC E` (0xCB 0x03, R315). -/
def execRlcE (s : State) : Result := .next (rotateLoc .rlc (.reg .e) s)

/-- `RLC H` (0xCB 0x04, R315). -/
def execRlcH (s : State) : Result := .next (rotateLoc .rlc (.reg .h) s)

/-- `RLC L` (0xCB 0x05, R315). -/
def execRlcL (s : State) : Result := .next (rotateLoc .rlc (.reg .l) s)

/-- `RLC (HL)` (0xCB 0x06, R316). -/
def execRlcMemHl (s : State) : Result := .next (rotateLoc .rlc .memHl s)

/-- `RLC A` (0xCB 0x07, R315). -/
def execRlcA (s : State) : Result := .next (rotateLoc .rlc (.reg .a) s)

/-- `RRC B` (0xCB 0x08, R317). -/
def execRrcB (s : State) : Result := .next (rotateLoc .rrc (.reg .b) s)

/-- `RRC C` (0xCB 0x09, R317). -/
def execRrcC (s : State) : Result := .next (rotateLoc .rrc (.reg .c) s)

/-- `RRC D` (0xCB 0x0A, R317). -/
def execRrcD (s : State) : Result := .next (rotateLoc .rrc (.reg .d) s)

/-- `RRC E` (0xCB 0x0B, R317). -/
def execRrcE (s : State) : Result := .next (rotateLoc .rrc (.reg .e) s)

/-- `RRC H` (0xCB 0x0C, R317). -/
def execRrcH (s : State) : Result := .next (rotateLoc .rrc (.reg .h) s)

/-- `RRC L` (0xCB 0x0D, R317). -/
def execRrcL (s : State) : Result := .next (rotateLoc .rrc (.reg .l) s)

/-- `RRC (HL)` (0xCB 0x0E, R318). -/
def execRrcMemHl (s : State) : Result := .next (rotateLoc .rrc .memHl s)

/-- `RRC A` (0xCB 0x0F, R317). -/
def execRrcA (s : State) : Result := .next (rotateLoc .rrc (.reg .a) s)

/-- `RL B` (0xCB 0x10, R319). -/
def execRlB (s : State) : Result := .next (rotateLoc .rl (.reg .b) s)

/-- `RL C` (0xCB 0x11, R319). -/
def execRlC (s : State) : Result := .next (rotateLoc .rl (.reg .c) s)

/-- `RL D` (0xCB 0x12, R319). -/
def execRlD (s : State) : Result := .next (rotateLoc .rl (.reg .d) s)

/-- `RL E` (0xCB 0x13, R319). -/
def execRlE (s : State) : Result := .next (rotateLoc .rl (.reg .e) s)

/-- `RL H` (0xCB 0x14, R319). -/
def execRlH (s : State) : Result := .next (rotateLoc .rl (.reg .h) s)

/-- `RL L` (0xCB 0x15, R319). -/
def execRlL (s : State) : Result := .next (rotateLoc .rl (.reg .l) s)

/-- `RL (HL)` (0xCB 0x16, R320). -/
def execRlMemHl (s : State) : Result := .next (rotateLoc .rl .memHl s)

/-- `RL A` (0xCB 0x17, R319). -/
def execRlA (s : State) : Result := .next (rotateLoc .rl (.reg .a) s)

/-- `RR B` (0xCB 0x18, R321). -/
def execRrB (s : State) : Result := .next (rotateLoc .rr (.reg .b) s)

/-- `RR C` (0xCB 0x19, R321). -/
def execRrC (s : State) : Result := .next (rotateLoc .rr (.reg .c) s)

/-- `RR D` (0xCB 0x1A, R321). -/
def execRrD (s : State) : Result := .next (rotateLoc .rr (.reg .d) s)

/-- `RR E` (0xCB 0x1B, R321). -/
def execRrE (s : State) : Result := .next (rotateLoc .rr (.reg .e) s)

/-- `RR H` (0xCB 0x1C, R321). -/
def execRrH (s : State) : Result := .next (rotateLoc .rr (.reg .h) s)

/-- `RR L` (0xCB 0x1D, R321). -/
def execRrL (s : State) : Result := .next (rotateLoc .rr (.reg .l) s)

/-- `RR (HL)` (0xCB 0x1E, R322). -/
def execRrMemHl (s : State) : Result := .next (rotateLoc .rr .memHl s)

/-- `RR A` (0xCB 0x1F, R321). -/
def execRrA (s : State) : Result := .next (rotateLoc .rr (.reg .a) s)

/-- `SLA B` (0xCB 0x20, R323). -/
def execSlaB (s : State) : Result := .next (rotateLoc .sla (.reg .b) s)

/-- `SLA C` (0xCB 0x21, R323). -/
def execSlaC (s : State) : Result := .next (rotateLoc .sla (.reg .c) s)

/-- `SLA D` (0xCB 0x22, R323). -/
def execSlaD (s : State) : Result := .next (rotateLoc .sla (.reg .d) s)

/-- `SLA E` (0xCB 0x23, R323). -/
def execSlaE (s : State) : Result := .next (rotateLoc .sla (.reg .e) s)

/-- `SLA H` (0xCB 0x24, R323). -/
def execSlaH (s : State) : Result := .next (rotateLoc .sla (.reg .h) s)

/-- `SLA L` (0xCB 0x25, R323). -/
def execSlaL (s : State) : Result := .next (rotateLoc .sla (.reg .l) s)

/-- `SLA (HL)` (0xCB 0x26, R324). -/
def execSlaMemHl (s : State) : Result := .next (rotateLoc .sla .memHl s)

/-- `SLA A` (0xCB 0x27, R323). -/
def execSlaA (s : State) : Result := .next (rotateLoc .sla (.reg .a) s)

/-- `SRA B` (0xCB 0x28, R325). -/
def execSraB (s : State) : Result := .next (rotateLoc .sra (.reg .b) s)

/-- `SRA C` (0xCB 0x29, R325). -/
def execSraC (s : State) : Result := .next (rotateLoc .sra (.reg .c) s)

/-- `SRA D` (0xCB 0x2A, R325). -/
def execSraD (s : State) : Result := .next (rotateLoc .sra (.reg .d) s)

/-- `SRA E` (0xCB 0x2B, R325). -/
def execSraE (s : State) : Result := .next (rotateLoc .sra (.reg .e) s)

/-- `SRA H` (0xCB 0x2C, R325). -/
def execSraH (s : State) : Result := .next (rotateLoc .sra (.reg .h) s)

/-- `SRA L` (0xCB 0x2D, R325). -/
def execSraL (s : State) : Result := .next (rotateLoc .sra (.reg .l) s)

/-- `SRA (HL)` (0xCB 0x2E, R326). -/
def execSraMemHl (s : State) : Result := .next (rotateLoc .sra .memHl s)

/-- `SRA A` (0xCB 0x2F, R325). -/
def execSraA (s : State) : Result := .next (rotateLoc .sra (.reg .a) s)

/-- `SWAP B` (0xCB 0x30, R327). -/
def execSwapB (s : State) : Result := .next (rotateLoc .swap (.reg .b) s)

/-- `SWAP C` (0xCB 0x31, R327). -/
def execSwapC (s : State) : Result := .next (rotateLoc .swap (.reg .c) s)

/-- `SWAP D` (0xCB 0x32, R327). -/
def execSwapD (s : State) : Result := .next (rotateLoc .swap (.reg .d) s)

/-- `SWAP E` (0xCB 0x33, R327). -/
def execSwapE (s : State) : Result := .next (rotateLoc .swap (.reg .e) s)

/-- `SWAP H` (0xCB 0x34, R327). -/
def execSwapH (s : State) : Result := .next (rotateLoc .swap (.reg .h) s)

/-- `SWAP L` (0xCB 0x35, R327). -/
def execSwapL (s : State) : Result := .next (rotateLoc .swap (.reg .l) s)

/-- `SWAP (HL)` (0xCB 0x36, R328). -/
def execSwapMemHl (s : State) : Result := .next (rotateLoc .swap .memHl s)

/-- `SWAP A` (0xCB 0x37, R327). -/
def execSwapA (s : State) : Result := .next (rotateLoc .swap (.reg .a) s)

/-- `SRL B` (0xCB 0x38, R329). -/
def execSrlB (s : State) : Result := .next (rotateLoc .srl (.reg .b) s)

/-- `SRL C` (0xCB 0x39, R329). -/
def execSrlC (s : State) : Result := .next (rotateLoc .srl (.reg .c) s)

/-- `SRL D` (0xCB 0x3A, R329). -/
def execSrlD (s : State) : Result := .next (rotateLoc .srl (.reg .d) s)

/-- `SRL E` (0xCB 0x3B, R329). -/
def execSrlE (s : State) : Result := .next (rotateLoc .srl (.reg .e) s)

/-- `SRL H` (0xCB 0x3C, R329). -/
def execSrlH (s : State) : Result := .next (rotateLoc .srl (.reg .h) s)

/-- `SRL L` (0xCB 0x3D, R329). -/
def execSrlL (s : State) : Result := .next (rotateLoc .srl (.reg .l) s)

/-- `SRL (HL)` (0xCB 0x3E, R330). -/
def execSrlMemHl (s : State) : Result := .next (rotateLoc .srl .memHl s)

/-- `SRL A` (0xCB 0x3F, R329). -/
def execSrlA (s : State) : Result := .next (rotateLoc .srl (.reg .a) s)

/-- `BIT 0,B` (0xCB 0x40, R331). -/
def execBit0B (s : State) : Result := .next (testBitLoc 0 (.reg .b) s)

/-- `BIT 0,C` (0xCB 0x41, R331). -/
def execBit0C (s : State) : Result := .next (testBitLoc 0 (.reg .c) s)

/-- `BIT 0,D` (0xCB 0x42, R331). -/
def execBit0D (s : State) : Result := .next (testBitLoc 0 (.reg .d) s)

/-- `BIT 0,E` (0xCB 0x43, R331). -/
def execBit0E (s : State) : Result := .next (testBitLoc 0 (.reg .e) s)

/-- `BIT 0,H` (0xCB 0x44, R331). -/
def execBit0H (s : State) : Result := .next (testBitLoc 0 (.reg .h) s)

/-- `BIT 0,L` (0xCB 0x45, R331). -/
def execBit0L (s : State) : Result := .next (testBitLoc 0 (.reg .l) s)

/-- `BIT 0,(HL)` (0xCB 0x46, R332). -/
def execBit0MemHl (s : State) : Result := .next (testBitLoc 0 .memHl s)

/-- `BIT 0,A` (0xCB 0x47, R331). -/
def execBit0A (s : State) : Result := .next (testBitLoc 0 (.reg .a) s)

/-- `BIT 1,B` (0xCB 0x48, R331). -/
def execBit1B (s : State) : Result := .next (testBitLoc 1 (.reg .b) s)

/-- `BIT 1,C` (0xCB 0x49, R331). -/
def execBit1C (s : State) : Result := .next (testBitLoc 1 (.reg .c) s)

/-- `BIT 1,D` (0xCB 0x4A, R331). -/
def execBit1D (s : State) : Result := .next (testBitLoc 1 (.reg .d) s)

/-- `BIT 1,E` (0xCB 0x4B, R331). -/
def execBit1E (s : State) : Result := .next (testBitLoc 1 (.reg .e) s)

/-- `BIT 1,H` (0xCB 0x4C, R331). -/
def execBit1H (s : State) : Result := .next (testBitLoc 1 (.reg .h) s)

/-- `BIT 1,L` (0xCB 0x4D, R331). -/
def execBit1L (s : State) : Result := .next (testBitLoc 1 (.reg .l) s)

/-- `BIT 1,(HL)` (0xCB 0x4E, R332). -/
def execBit1MemHl (s : State) : Result := .next (testBitLoc 1 .memHl s)

/-- `BIT 1,A` (0xCB 0x4F, R331). -/
def execBit1A (s : State) : Result := .next (testBitLoc 1 (.reg .a) s)

/-- `BIT 2,B` (0xCB 0x50, R331). -/
def execBit2B (s : State) : Result := .next (testBitLoc 2 (.reg .b) s)

/-- `BIT 2,C` (0xCB 0x51, R331). -/
def execBit2C (s : State) : Result := .next (testBitLoc 2 (.reg .c) s)

/-- `BIT 2,D` (0xCB 0x52, R331). -/
def execBit2D (s : State) : Result := .next (testBitLoc 2 (.reg .d) s)

/-- `BIT 2,E` (0xCB 0x53, R331). -/
def execBit2E (s : State) : Result := .next (testBitLoc 2 (.reg .e) s)

/-- `BIT 2,H` (0xCB 0x54, R331). -/
def execBit2H (s : State) : Result := .next (testBitLoc 2 (.reg .h) s)

/-- `BIT 2,L` (0xCB 0x55, R331). -/
def execBit2L (s : State) : Result := .next (testBitLoc 2 (.reg .l) s)

/-- `BIT 2,(HL)` (0xCB 0x56, R332). -/
def execBit2MemHl (s : State) : Result := .next (testBitLoc 2 .memHl s)

/-- `BIT 2,A` (0xCB 0x57, R331). -/
def execBit2A (s : State) : Result := .next (testBitLoc 2 (.reg .a) s)

/-- `BIT 3,B` (0xCB 0x58, R331). -/
def execBit3B (s : State) : Result := .next (testBitLoc 3 (.reg .b) s)

/-- `BIT 3,C` (0xCB 0x59, R331). -/
def execBit3C (s : State) : Result := .next (testBitLoc 3 (.reg .c) s)

/-- `BIT 3,D` (0xCB 0x5A, R331). -/
def execBit3D (s : State) : Result := .next (testBitLoc 3 (.reg .d) s)

/-- `BIT 3,E` (0xCB 0x5B, R331). -/
def execBit3E (s : State) : Result := .next (testBitLoc 3 (.reg .e) s)

/-- `BIT 3,H` (0xCB 0x5C, R331). -/
def execBit3H (s : State) : Result := .next (testBitLoc 3 (.reg .h) s)

/-- `BIT 3,L` (0xCB 0x5D, R331). -/
def execBit3L (s : State) : Result := .next (testBitLoc 3 (.reg .l) s)

/-- `BIT 3,(HL)` (0xCB 0x5E, R332). -/
def execBit3MemHl (s : State) : Result := .next (testBitLoc 3 .memHl s)

/-- `BIT 3,A` (0xCB 0x5F, R331). -/
def execBit3A (s : State) : Result := .next (testBitLoc 3 (.reg .a) s)

/-- `BIT 4,B` (0xCB 0x60, R331). -/
def execBit4B (s : State) : Result := .next (testBitLoc 4 (.reg .b) s)

/-- `BIT 4,C` (0xCB 0x61, R331). -/
def execBit4C (s : State) : Result := .next (testBitLoc 4 (.reg .c) s)

/-- `BIT 4,D` (0xCB 0x62, R331). -/
def execBit4D (s : State) : Result := .next (testBitLoc 4 (.reg .d) s)

/-- `BIT 4,E` (0xCB 0x63, R331). -/
def execBit4E (s : State) : Result := .next (testBitLoc 4 (.reg .e) s)

/-- `BIT 4,H` (0xCB 0x64, R331). -/
def execBit4H (s : State) : Result := .next (testBitLoc 4 (.reg .h) s)

/-- `BIT 4,L` (0xCB 0x65, R331). -/
def execBit4L (s : State) : Result := .next (testBitLoc 4 (.reg .l) s)

/-- `BIT 4,(HL)` (0xCB 0x66, R332). -/
def execBit4MemHl (s : State) : Result := .next (testBitLoc 4 .memHl s)

/-- `BIT 4,A` (0xCB 0x67, R331). -/
def execBit4A (s : State) : Result := .next (testBitLoc 4 (.reg .a) s)

/-- `BIT 5,B` (0xCB 0x68, R331). -/
def execBit5B (s : State) : Result := .next (testBitLoc 5 (.reg .b) s)

/-- `BIT 5,C` (0xCB 0x69, R331). -/
def execBit5C (s : State) : Result := .next (testBitLoc 5 (.reg .c) s)

/-- `BIT 5,D` (0xCB 0x6A, R331). -/
def execBit5D (s : State) : Result := .next (testBitLoc 5 (.reg .d) s)

/-- `BIT 5,E` (0xCB 0x6B, R331). -/
def execBit5E (s : State) : Result := .next (testBitLoc 5 (.reg .e) s)

/-- `BIT 5,H` (0xCB 0x6C, R331). -/
def execBit5H (s : State) : Result := .next (testBitLoc 5 (.reg .h) s)

/-- `BIT 5,L` (0xCB 0x6D, R331). -/
def execBit5L (s : State) : Result := .next (testBitLoc 5 (.reg .l) s)

/-- `BIT 5,(HL)` (0xCB 0x6E, R332). -/
def execBit5MemHl (s : State) : Result := .next (testBitLoc 5 .memHl s)

/-- `BIT 5,A` (0xCB 0x6F, R331). -/
def execBit5A (s : State) : Result := .next (testBitLoc 5 (.reg .a) s)

/-- `BIT 6,B` (0xCB 0x70, R331). -/
def execBit6B (s : State) : Result := .next (testBitLoc 6 (.reg .b) s)

/-- `BIT 6,C` (0xCB 0x71, R331). -/
def execBit6C (s : State) : Result := .next (testBitLoc 6 (.reg .c) s)

/-- `BIT 6,D` (0xCB 0x72, R331). -/
def execBit6D (s : State) : Result := .next (testBitLoc 6 (.reg .d) s)

/-- `BIT 6,E` (0xCB 0x73, R331). -/
def execBit6E (s : State) : Result := .next (testBitLoc 6 (.reg .e) s)

/-- `BIT 6,H` (0xCB 0x74, R331). -/
def execBit6H (s : State) : Result := .next (testBitLoc 6 (.reg .h) s)

/-- `BIT 6,L` (0xCB 0x75, R331). -/
def execBit6L (s : State) : Result := .next (testBitLoc 6 (.reg .l) s)

/-- `BIT 6,(HL)` (0xCB 0x76, R332). -/
def execBit6MemHl (s : State) : Result := .next (testBitLoc 6 .memHl s)

/-- `BIT 6,A` (0xCB 0x77, R331). -/
def execBit6A (s : State) : Result := .next (testBitLoc 6 (.reg .a) s)

/-- `BIT 7,B` (0xCB 0x78, R331). -/
def execBit7B (s : State) : Result := .next (testBitLoc 7 (.reg .b) s)

/-- `BIT 7,C` (0xCB 0x79, R331). -/
def execBit7C (s : State) : Result := .next (testBitLoc 7 (.reg .c) s)

/-- `BIT 7,D` (0xCB 0x7A, R331). -/
def execBit7D (s : State) : Result := .next (testBitLoc 7 (.reg .d) s)

/-- `BIT 7,E` (0xCB 0x7B, R331). -/
def execBit7E (s : State) : Result := .next (testBitLoc 7 (.reg .e) s)

/-- `BIT 7,H` (0xCB 0x7C, R331). -/
def execBit7H (s : State) : Result := .next (testBitLoc 7 (.reg .h) s)

/-- `BIT 7,L` (0xCB 0x7D, R331). -/
def execBit7L (s : State) : Result := .next (testBitLoc 7 (.reg .l) s)

/-- `BIT 7,(HL)` (0xCB 0x7E, R332). -/
def execBit7MemHl (s : State) : Result := .next (testBitLoc 7 .memHl s)

/-- `BIT 7,A` (0xCB 0x7F, R331). -/
def execBit7A (s : State) : Result := .next (testBitLoc 7 (.reg .a) s)

/-- `RES 0,B` (0xCB 0x80, R333). -/
def execRes0B (s : State) : Result := .next (resetBitLoc 0 (.reg .b) s)

/-- `RES 0,C` (0xCB 0x81, R333). -/
def execRes0C (s : State) : Result := .next (resetBitLoc 0 (.reg .c) s)

/-- `RES 0,D` (0xCB 0x82, R333). -/
def execRes0D (s : State) : Result := .next (resetBitLoc 0 (.reg .d) s)

/-- `RES 0,E` (0xCB 0x83, R333). -/
def execRes0E (s : State) : Result := .next (resetBitLoc 0 (.reg .e) s)

/-- `RES 0,H` (0xCB 0x84, R333). -/
def execRes0H (s : State) : Result := .next (resetBitLoc 0 (.reg .h) s)

/-- `RES 0,L` (0xCB 0x85, R333). -/
def execRes0L (s : State) : Result := .next (resetBitLoc 0 (.reg .l) s)

/-- `RES 0,(HL)` (0xCB 0x86, R334). -/
def execRes0MemHl (s : State) : Result := .next (resetBitLoc 0 .memHl s)

/-- `RES 0,A` (0xCB 0x87, R333). -/
def execRes0A (s : State) : Result := .next (resetBitLoc 0 (.reg .a) s)

/-- `RES 1,B` (0xCB 0x88, R333). -/
def execRes1B (s : State) : Result := .next (resetBitLoc 1 (.reg .b) s)

/-- `RES 1,C` (0xCB 0x89, R333). -/
def execRes1C (s : State) : Result := .next (resetBitLoc 1 (.reg .c) s)

/-- `RES 1,D` (0xCB 0x8A, R333). -/
def execRes1D (s : State) : Result := .next (resetBitLoc 1 (.reg .d) s)

/-- `RES 1,E` (0xCB 0x8B, R333). -/
def execRes1E (s : State) : Result := .next (resetBitLoc 1 (.reg .e) s)

/-- `RES 1,H` (0xCB 0x8C, R333). -/
def execRes1H (s : State) : Result := .next (resetBitLoc 1 (.reg .h) s)

/-- `RES 1,L` (0xCB 0x8D, R333). -/
def execRes1L (s : State) : Result := .next (resetBitLoc 1 (.reg .l) s)

/-- `RES 1,(HL)` (0xCB 0x8E, R334). -/
def execRes1MemHl (s : State) : Result := .next (resetBitLoc 1 .memHl s)

/-- `RES 1,A` (0xCB 0x8F, R333). -/
def execRes1A (s : State) : Result := .next (resetBitLoc 1 (.reg .a) s)

/-- `RES 2,B` (0xCB 0x90, R333). -/
def execRes2B (s : State) : Result := .next (resetBitLoc 2 (.reg .b) s)

/-- `RES 2,C` (0xCB 0x91, R333). -/
def execRes2C (s : State) : Result := .next (resetBitLoc 2 (.reg .c) s)

/-- `RES 2,D` (0xCB 0x92, R333). -/
def execRes2D (s : State) : Result := .next (resetBitLoc 2 (.reg .d) s)

/-- `RES 2,E` (0xCB 0x93, R333). -/
def execRes2E (s : State) : Result := .next (resetBitLoc 2 (.reg .e) s)

/-- `RES 2,H` (0xCB 0x94, R333). -/
def execRes2H (s : State) : Result := .next (resetBitLoc 2 (.reg .h) s)

/-- `RES 2,L` (0xCB 0x95, R333). -/
def execRes2L (s : State) : Result := .next (resetBitLoc 2 (.reg .l) s)

/-- `RES 2,(HL)` (0xCB 0x96, R334). -/
def execRes2MemHl (s : State) : Result := .next (resetBitLoc 2 .memHl s)

/-- `RES 2,A` (0xCB 0x97, R333). -/
def execRes2A (s : State) : Result := .next (resetBitLoc 2 (.reg .a) s)

/-- `RES 3,B` (0xCB 0x98, R333). -/
def execRes3B (s : State) : Result := .next (resetBitLoc 3 (.reg .b) s)

/-- `RES 3,C` (0xCB 0x99, R333). -/
def execRes3C (s : State) : Result := .next (resetBitLoc 3 (.reg .c) s)

/-- `RES 3,D` (0xCB 0x9A, R333). -/
def execRes3D (s : State) : Result := .next (resetBitLoc 3 (.reg .d) s)

/-- `RES 3,E` (0xCB 0x9B, R333). -/
def execRes3E (s : State) : Result := .next (resetBitLoc 3 (.reg .e) s)

/-- `RES 3,H` (0xCB 0x9C, R333). -/
def execRes3H (s : State) : Result := .next (resetBitLoc 3 (.reg .h) s)

/-- `RES 3,L` (0xCB 0x9D, R333). -/
def execRes3L (s : State) : Result := .next (resetBitLoc 3 (.reg .l) s)

/-- `RES 3,(HL)` (0xCB 0x9E, R334). -/
def execRes3MemHl (s : State) : Result := .next (resetBitLoc 3 .memHl s)

/-- `RES 3,A` (0xCB 0x9F, R333). -/
def execRes3A (s : State) : Result := .next (resetBitLoc 3 (.reg .a) s)

/-- `RES 4,B` (0xCB 0xA0, R333). -/
def execRes4B (s : State) : Result := .next (resetBitLoc 4 (.reg .b) s)

/-- `RES 4,C` (0xCB 0xA1, R333). -/
def execRes4C (s : State) : Result := .next (resetBitLoc 4 (.reg .c) s)

/-- `RES 4,D` (0xCB 0xA2, R333). -/
def execRes4D (s : State) : Result := .next (resetBitLoc 4 (.reg .d) s)

/-- `RES 4,E` (0xCB 0xA3, R333). -/
def execRes4E (s : State) : Result := .next (resetBitLoc 4 (.reg .e) s)

/-- `RES 4,H` (0xCB 0xA4, R333). -/
def execRes4H (s : State) : Result := .next (resetBitLoc 4 (.reg .h) s)

/-- `RES 4,L` (0xCB 0xA5, R333). -/
def execRes4L (s : State) : Result := .next (resetBitLoc 4 (.reg .l) s)

/-- `RES 4,(HL)` (0xCB 0xA6, R334). -/
def execRes4MemHl (s : State) : Result := .next (resetBitLoc 4 .memHl s)

/-- `RES 4,A` (0xCB 0xA7, R333). -/
def execRes4A (s : State) : Result := .next (resetBitLoc 4 (.reg .a) s)

/-- `RES 5,B` (0xCB 0xA8, R333). -/
def execRes5B (s : State) : Result := .next (resetBitLoc 5 (.reg .b) s)

/-- `RES 5,C` (0xCB 0xA9, R333). -/
def execRes5C (s : State) : Result := .next (resetBitLoc 5 (.reg .c) s)

/-- `RES 5,D` (0xCB 0xAA, R333). -/
def execRes5D (s : State) : Result := .next (resetBitLoc 5 (.reg .d) s)

/-- `RES 5,E` (0xCB 0xAB, R333). -/
def execRes5E (s : State) : Result := .next (resetBitLoc 5 (.reg .e) s)

/-- `RES 5,H` (0xCB 0xAC, R333). -/
def execRes5H (s : State) : Result := .next (resetBitLoc 5 (.reg .h) s)

/-- `RES 5,L` (0xCB 0xAD, R333). -/
def execRes5L (s : State) : Result := .next (resetBitLoc 5 (.reg .l) s)

/-- `RES 5,(HL)` (0xCB 0xAE, R334). -/
def execRes5MemHl (s : State) : Result := .next (resetBitLoc 5 .memHl s)

/-- `RES 5,A` (0xCB 0xAF, R333). -/
def execRes5A (s : State) : Result := .next (resetBitLoc 5 (.reg .a) s)

/-- `RES 6,B` (0xCB 0xB0, R333). -/
def execRes6B (s : State) : Result := .next (resetBitLoc 6 (.reg .b) s)

/-- `RES 6,C` (0xCB 0xB1, R333). -/
def execRes6C (s : State) : Result := .next (resetBitLoc 6 (.reg .c) s)

/-- `RES 6,D` (0xCB 0xB2, R333). -/
def execRes6D (s : State) : Result := .next (resetBitLoc 6 (.reg .d) s)

/-- `RES 6,E` (0xCB 0xB3, R333). -/
def execRes6E (s : State) : Result := .next (resetBitLoc 6 (.reg .e) s)

/-- `RES 6,H` (0xCB 0xB4, R333). -/
def execRes6H (s : State) : Result := .next (resetBitLoc 6 (.reg .h) s)

/-- `RES 6,L` (0xCB 0xB5, R333). -/
def execRes6L (s : State) : Result := .next (resetBitLoc 6 (.reg .l) s)

/-- `RES 6,(HL)` (0xCB 0xB6, R334). -/
def execRes6MemHl (s : State) : Result := .next (resetBitLoc 6 .memHl s)

/-- `RES 6,A` (0xCB 0xB7, R333). -/
def execRes6A (s : State) : Result := .next (resetBitLoc 6 (.reg .a) s)

/-- `RES 7,B` (0xCB 0xB8, R333). -/
def execRes7B (s : State) : Result := .next (resetBitLoc 7 (.reg .b) s)

/-- `RES 7,C` (0xCB 0xB9, R333). -/
def execRes7C (s : State) : Result := .next (resetBitLoc 7 (.reg .c) s)

/-- `RES 7,D` (0xCB 0xBA, R333). -/
def execRes7D (s : State) : Result := .next (resetBitLoc 7 (.reg .d) s)

/-- `RES 7,E` (0xCB 0xBB, R333). -/
def execRes7E (s : State) : Result := .next (resetBitLoc 7 (.reg .e) s)

/-- `RES 7,H` (0xCB 0xBC, R333). -/
def execRes7H (s : State) : Result := .next (resetBitLoc 7 (.reg .h) s)

/-- `RES 7,L` (0xCB 0xBD, R333). -/
def execRes7L (s : State) : Result := .next (resetBitLoc 7 (.reg .l) s)

/-- `RES 7,(HL)` (0xCB 0xBE, R334). -/
def execRes7MemHl (s : State) : Result := .next (resetBitLoc 7 .memHl s)

/-- `RES 7,A` (0xCB 0xBF, R333). -/
def execRes7A (s : State) : Result := .next (resetBitLoc 7 (.reg .a) s)

/-- `SET 0,B` (0xCB 0xC0, R335). -/
def execSet0B (s : State) : Result := .next (setBitLoc 0 (.reg .b) s)

/-- `SET 0,C` (0xCB 0xC1, R335). -/
def execSet0C (s : State) : Result := .next (setBitLoc 0 (.reg .c) s)

/-- `SET 0,D` (0xCB 0xC2, R335). -/
def execSet0D (s : State) : Result := .next (setBitLoc 0 (.reg .d) s)

/-- `SET 0,E` (0xCB 0xC3, R335). -/
def execSet0E (s : State) : Result := .next (setBitLoc 0 (.reg .e) s)

/-- `SET 0,H` (0xCB 0xC4, R335). -/
def execSet0H (s : State) : Result := .next (setBitLoc 0 (.reg .h) s)

/-- `SET 0,L` (0xCB 0xC5, R335). -/
def execSet0L (s : State) : Result := .next (setBitLoc 0 (.reg .l) s)

/-- `SET 0,(HL)` (0xCB 0xC6, R336). -/
def execSet0MemHl (s : State) : Result := .next (setBitLoc 0 .memHl s)

/-- `SET 0,A` (0xCB 0xC7, R335). -/
def execSet0A (s : State) : Result := .next (setBitLoc 0 (.reg .a) s)

/-- `SET 1,B` (0xCB 0xC8, R335). -/
def execSet1B (s : State) : Result := .next (setBitLoc 1 (.reg .b) s)

/-- `SET 1,C` (0xCB 0xC9, R335). -/
def execSet1C (s : State) : Result := .next (setBitLoc 1 (.reg .c) s)

/-- `SET 1,D` (0xCB 0xCA, R335). -/
def execSet1D (s : State) : Result := .next (setBitLoc 1 (.reg .d) s)

/-- `SET 1,E` (0xCB 0xCB, R335). -/
def execSet1E (s : State) : Result := .next (setBitLoc 1 (.reg .e) s)

/-- `SET 1,H` (0xCB 0xCC, R335). -/
def execSet1H (s : State) : Result := .next (setBitLoc 1 (.reg .h) s)

/-- `SET 1,L` (0xCB 0xCD, R335). -/
def execSet1L (s : State) : Result := .next (setBitLoc 1 (.reg .l) s)

/-- `SET 1,(HL)` (0xCB 0xCE, R336). -/
def execSet1MemHl (s : State) : Result := .next (setBitLoc 1 .memHl s)

/-- `SET 1,A` (0xCB 0xCF, R335). -/
def execSet1A (s : State) : Result := .next (setBitLoc 1 (.reg .a) s)

/-- `SET 2,B` (0xCB 0xD0, R335). -/
def execSet2B (s : State) : Result := .next (setBitLoc 2 (.reg .b) s)

/-- `SET 2,C` (0xCB 0xD1, R335). -/
def execSet2C (s : State) : Result := .next (setBitLoc 2 (.reg .c) s)

/-- `SET 2,D` (0xCB 0xD2, R335). -/
def execSet2D (s : State) : Result := .next (setBitLoc 2 (.reg .d) s)

/-- `SET 2,E` (0xCB 0xD3, R335). -/
def execSet2E (s : State) : Result := .next (setBitLoc 2 (.reg .e) s)

/-- `SET 2,H` (0xCB 0xD4, R335). -/
def execSet2H (s : State) : Result := .next (setBitLoc 2 (.reg .h) s)

/-- `SET 2,L` (0xCB 0xD5, R335). -/
def execSet2L (s : State) : Result := .next (setBitLoc 2 (.reg .l) s)

/-- `SET 2,(HL)` (0xCB 0xD6, R336). -/
def execSet2MemHl (s : State) : Result := .next (setBitLoc 2 .memHl s)

/-- `SET 2,A` (0xCB 0xD7, R335). -/
def execSet2A (s : State) : Result := .next (setBitLoc 2 (.reg .a) s)

/-- `SET 3,B` (0xCB 0xD8, R335). -/
def execSet3B (s : State) : Result := .next (setBitLoc 3 (.reg .b) s)

/-- `SET 3,C` (0xCB 0xD9, R335). -/
def execSet3C (s : State) : Result := .next (setBitLoc 3 (.reg .c) s)

/-- `SET 3,D` (0xCB 0xDA, R335). -/
def execSet3D (s : State) : Result := .next (setBitLoc 3 (.reg .d) s)

/-- `SET 3,E` (0xCB 0xDB, R335). -/
def execSet3E (s : State) : Result := .next (setBitLoc 3 (.reg .e) s)

/-- `SET 3,H` (0xCB 0xDC, R335). -/
def execSet3H (s : State) : Result := .next (setBitLoc 3 (.reg .h) s)

/-- `SET 3,L` (0xCB 0xDD, R335). -/
def execSet3L (s : State) : Result := .next (setBitLoc 3 (.reg .l) s)

/-- `SET 3,(HL)` (0xCB 0xDE, R336). -/
def execSet3MemHl (s : State) : Result := .next (setBitLoc 3 .memHl s)

/-- `SET 3,A` (0xCB 0xDF, R335). -/
def execSet3A (s : State) : Result := .next (setBitLoc 3 (.reg .a) s)

/-- `SET 4,B` (0xCB 0xE0, R335). -/
def execSet4B (s : State) : Result := .next (setBitLoc 4 (.reg .b) s)

/-- `SET 4,C` (0xCB 0xE1, R335). -/
def execSet4C (s : State) : Result := .next (setBitLoc 4 (.reg .c) s)

/-- `SET 4,D` (0xCB 0xE2, R335). -/
def execSet4D (s : State) : Result := .next (setBitLoc 4 (.reg .d) s)

/-- `SET 4,E` (0xCB 0xE3, R335). -/
def execSet4E (s : State) : Result := .next (setBitLoc 4 (.reg .e) s)

/-- `SET 4,H` (0xCB 0xE4, R335). -/
def execSet4H (s : State) : Result := .next (setBitLoc 4 (.reg .h) s)

/-- `SET 4,L` (0xCB 0xE5, R335). -/
def execSet4L (s : State) : Result := .next (setBitLoc 4 (.reg .l) s)

/-- `SET 4,(HL)` (0xCB 0xE6, R336). -/
def execSet4MemHl (s : State) : Result := .next (setBitLoc 4 .memHl s)

/-- `SET 4,A` (0xCB 0xE7, R335). -/
def execSet4A (s : State) : Result := .next (setBitLoc 4 (.reg .a) s)

/-- `SET 5,B` (0xCB 0xE8, R335). -/
def execSet5B (s : State) : Result := .next (setBitLoc 5 (.reg .b) s)

/-- `SET 5,C` (0xCB 0xE9, R335). -/
def execSet5C (s : State) : Result := .next (setBitLoc 5 (.reg .c) s)

/-- `SET 5,D` (0xCB 0xEA, R335). -/
def execSet5D (s : State) : Result := .next (setBitLoc 5 (.reg .d) s)

/-- `SET 5,E` (0xCB 0xEB, R335). -/
def execSet5E (s : State) : Result := .next (setBitLoc 5 (.reg .e) s)

/-- `SET 5,H` (0xCB 0xEC, R335). -/
def execSet5H (s : State) : Result := .next (setBitLoc 5 (.reg .h) s)

/-- `SET 5,L` (0xCB 0xED, R335). -/
def execSet5L (s : State) : Result := .next (setBitLoc 5 (.reg .l) s)

/-- `SET 5,(HL)` (0xCB 0xEE, R336). -/
def execSet5MemHl (s : State) : Result := .next (setBitLoc 5 .memHl s)

/-- `SET 5,A` (0xCB 0xEF, R335). -/
def execSet5A (s : State) : Result := .next (setBitLoc 5 (.reg .a) s)

/-- `SET 6,B` (0xCB 0xF0, R335). -/
def execSet6B (s : State) : Result := .next (setBitLoc 6 (.reg .b) s)

/-- `SET 6,C` (0xCB 0xF1, R335). -/
def execSet6C (s : State) : Result := .next (setBitLoc 6 (.reg .c) s)

/-- `SET 6,D` (0xCB 0xF2, R335). -/
def execSet6D (s : State) : Result := .next (setBitLoc 6 (.reg .d) s)

/-- `SET 6,E` (0xCB 0xF3, R335). -/
def execSet6E (s : State) : Result := .next (setBitLoc 6 (.reg .e) s)

/-- `SET 6,H` (0xCB 0xF4, R335). -/
def execSet6H (s : State) : Result := .next (setBitLoc 6 (.reg .h) s)

/-- `SET 6,L` (0xCB 0xF5, R335). -/
def execSet6L (s : State) : Result := .next (setBitLoc 6 (.reg .l) s)

/-- `SET 6,(HL)` (0xCB 0xF6, R336). -/
def execSet6MemHl (s : State) : Result := .next (setBitLoc 6 .memHl s)

/-- `SET 6,A` (0xCB 0xF7, R335). -/
def execSet6A (s : State) : Result := .next (setBitLoc 6 (.reg .a) s)

/-- `SET 7,B` (0xCB 0xF8, R335). -/
def execSet7B (s : State) : Result := .next (setBitLoc 7 (.reg .b) s)

/-- `SET 7,C` (0xCB 0xF9, R335). -/
def execSet7C (s : State) : Result := .next (setBitLoc 7 (.reg .c) s)

/-- `SET 7,D` (0xCB 0xFA, R335). -/
def execSet7D (s : State) : Result := .next (setBitLoc 7 (.reg .d) s)

/-- `SET 7,E` (0xCB 0xFB, R335). -/
def execSet7E (s : State) : Result := .next (setBitLoc 7 (.reg .e) s)

/-- `SET 7,H` (0xCB 0xFC, R335). -/
def execSet7H (s : State) : Result := .next (setBitLoc 7 (.reg .h) s)

/-- `SET 7,L` (0xCB 0xFD, R335). -/
def execSet7L (s : State) : Result := .next (setBitLoc 7 (.reg .l) s)

/-- `SET 7,(HL)` (0xCB 0xFE, R336). -/
def execSet7MemHl (s : State) : Result := .next (setBitLoc 7 .memHl s)

/-- `SET 7,A` (0xCB 0xFF, R335). -/
def execSet7A (s : State) : Result := .next (setBitLoc 7 (.reg .a) s)

end Sys2Proof.Machine
end

