-- ==== Sys2Proof/Machine/System.lean ====
section
/-! DEFINITION. The system instructions of 48_system.md (R370 to R377). None writes a flag. -/

namespace Sys2Proof.Machine

/-! ## Shared operations -/

/-- `NOP` (R371) and the undefined opcodes, which are "NOP-equivalent" (R377, R104). -/
def noOperation (s : State) : State := s.past 1

/-- `HALT`'s choice (R372), on the `IME` before the instruction's retire. -/
def State.halt (s : State) : State :=
  { s with
    haltActive := if s.ime || s.pend == 0#8 then true else s.haltActive
    haltBug := if s.ime || s.pend == 0#8 then s.haltBug else true }

/-- `HALT` (R372). -/
def haltCore (s : State) : State := (s.past 1).halt

/-- The speed switch (R373): when `PREPARE_SWITCH` is set, toggle `DOUBLE_SPEED` and clear `PREPARE_SWITCH`. -/
def Key1.switch (k : Key1) : Key1 :=
  if k.prepareSwitch then { doubleSpeed := !k.doubleSpeed, prepareSwitch := false } else k

/-- `STOP`'s effect (R373): on base hardware, and with `PREPARE_SWITCH` clear, nothing. -/
def State.stop (s : State) : State := { s with key1 := s.key1.map Key1.switch }

/-- `STOP` (R373): one byte (decision D10, log entry 9). -/
def stopCore (s : State) : State := (s.past 1).stop

/-- `DI`'s effect (R374). -/
def State.di (s : State) : State := { s with ime := false, imeSched := false }

/-- `DI` (R374). -/
def disableInterrupts (s : State) : State := (s.past 1).di

/-- `EI`'s effect (R375): an earlier schedule is committed, then a new one made. -/
def State.ei (s : State) : State := { s with ime := if s.imeSched then true else s.ime, imeSched := true }

/-- `EI` (R375). -/
def enableInterrupts (s : State) : State := (s.past 1).ei

/-- The row of the CB prefix (R376): the second byte is fetched by `paramByte`, selects its row of the CB table, and that row's
work follows. The decoder reads a prefix with its second byte as that row's own constructor (log entry 11). -/
def prefixed (s : State) : State := (s.past 2).cbWork (s.read (s.past 1).pc)

/-! ## One definition per instruction -/

/-- `NOP` (0x00, R371). -/
def execNop (s : State) : Result := .next (noOperation s)

/-- `STOP` (0x10, R373). -/
def execStop (s : State) : Result := .next (stopCore s)

/-- `HALT` (0x76, R372). -/
def execHalt (s : State) : Result := .next (haltCore s)

/-- `PREFIX CB` (0xCB, R376). -/
def execPrefixCb (s : State) : Result := .next (prefixed s)

/-- `(undefined 0xD3)` (0xD3, R377). -/
def execUndefinedD3 (s : State) : Result := .next (noOperation s)

/-- `(undefined 0xDB)` (0xDB, R377). -/
def execUndefinedDB (s : State) : Result := .next (noOperation s)

/-- `(undefined 0xDD)` (0xDD, R377). -/
def execUndefinedDD (s : State) : Result := .next (noOperation s)

/-- `(undefined 0xE3)` (0xE3, R377). -/
def execUndefinedE3 (s : State) : Result := .next (noOperation s)

/-- `(undefined 0xE4)` (0xE4, R377). -/
def execUndefinedE4 (s : State) : Result := .next (noOperation s)

/-- `(undefined 0xEB)` (0xEB, R377). -/
def execUndefinedEB (s : State) : Result := .next (noOperation s)

/-- `(undefined 0xEC)` (0xEC, R377). -/
def execUndefinedEC (s : State) : Result := .next (noOperation s)

/-- `(undefined 0xED)` (0xED, R377). -/
def execUndefinedED (s : State) : Result := .next (noOperation s)

/-- `DI` (0xF3, R374). -/
def execDi (s : State) : Result := .next (disableInterrupts s)

/-- `(undefined 0xF4)` (0xF4, R377). -/
def execUndefinedF4 (s : State) : Result := .next (noOperation s)

/-- `EI` (0xFB, R375). -/
def execEi (s : State) : Result := .next (enableInterrupts s)

/-- `(undefined 0xFC)` (0xFC, R377). -/
def execUndefinedFC (s : State) : Result := .next (noOperation s)

/-- `(undefined 0xFD)` (0xFD, R377). -/
def execUndefinedFD (s : State) : Result := .next (noOperation s)

end Sys2Proof.Machine
end

