-- ==== Sys2Proof/Machine/Cycle.lean ====
section
/-! DEFINITION. The micro-step sequencer of 41_sequencer.md: `cycle` is the spec's `step()`, ONE MACHINE CYCLE (R170, R172),
over `PIPE` and `SCRATCH`. A template is the M-cycle table of an instruction rule (R187): one `Row` a cycle, with at most
one bus access and the immediate steps grouped with it. The rows are written from the M-cycle tables of 42_ to 48_ and
60_exceptions.md, the meanings of `exec` from the rules' net effects: two transcriptions, and R10 says that they agree. -/

namespace Sys2Proof.Machine

/-- What a peripheral sees of one machine cycle (R64, R183): at most one bus access. -/
inductive BusOp where
  | read (addr : Word)
  | write (addr : Word) (v : Byte)
  | internal
deriving DecidableEq, Repr

/-- The word registers an immediate step can move to or from the scratch stack. -/
inductive WordReg where
  | bc | de | hl | af | sp | pc
deriving DecidableEq, Repr

/-- The immediate steps (R171): register transfers, ALU evaluations, scratch pushes and pops. -/
inductive Micro where
  | pushReg (r : Reg8)
  | popReg (r : Reg8)
  /-- A word goes on the scratch stack low byte first (R29, decision D4). -/
  | pushWord (w : WordReg)
  | popWord (w : WordReg)
  | pushHi (w : WordReg)
  | pushLo (w : WordReg)
  /-- A second copy of the word on top. -/
  | dupWord
  /-- The word on top, plus one. -/
  | nextAddr
  | drop
  | incPair (p : Pair16)
  | decPair (p : Pair16)
  | alu (op : AluOp)
  | incByte
  | decByte
  | rotA (o : AccRot)
  | rotByte (o : RotOp)
  | testBit (n : Fin 8)
  | clearBit (n : Fin 8)
  | raiseBit (n : Fin 8)
  | daa
  | cpl
  | scf
  | ccf
  | addHl
  | addSp
  | jumpBy
  | setPc (target : Word)
  | setIme
  | halt
  | stop
  | di
  | ei
  | enterDispatch (k : IrqSource)
deriving DecidableEq, Repr

/-- The cycle-consuming part of a row (R171, R174 to R178): a bus read, a bus write or an internal delay. A read pushes the
byte; a write takes the byte from the scratch stack, then, where the address is there too, the address. -/
inductive BusStep where
  /-- The opcode fetch (R174). -/
  | fetch
  /-- `paramByte` (R175). -/
  | param
  | readPair (p : Pair16)
  /-- Read at `0xFF00 + C`. -/
  | readHighC
  /-- Read at `0xFF00 + n`, `n` from the scratch stack. -/
  | readHigh
  /-- Read at the word on the scratch stack. -/
  | readAbs
  | writePair (p : Pair16)
  | writeHighC
  | writeHigh
  | writeAbs
  /-- Read at `SP`, then `SP + 1` (R66). -/
  | stackRead
  /-- `SP - 1`, then a write at `SP` (R66). -/
  | stackWrite
  | internal
deriving DecidableEq, Repr

/-- One row of an M-cycle table (R187): immediate steps before the bus access, the access, immediate steps after it, and
the conditional node that may end the pipeline with this row (R179). -/
structure Row where
  pre : List Micro := []
  bus : BusStep := .internal
  post : List Micro := []
  cond : Option Cond := none
deriving DecidableEq, Repr

/-! ## Running a row -/

/-- Read of a word register. -/
def State.word (s : State) (w : WordReg) : Word :=
  match w with
  | .bc => s.bc
  | .de => s.de
  | .hl => s.hl
  | .af => s.af
  | .sp => s.sp
  | .pc => s.pc

/-- Write of a word register; `AF` masks its low byte (R23). -/
def State.setWord (s : State) (w : WordReg) (v : Word) : State :=
  match w with
  | .bc => s.setStk .bc v
  | .de => s.setStk .de v
  | .hl => s.setStk .hl v
  | .af => s.setStk .af v
  | .sp => { s with sp := v }
  | .pc => { s with pc := v }

/-- One immediate step; `none` when the scratch stack holds too few bytes. -/
def Micro.run (m : Micro) (s : State) : Option State :=
  match m with
  | .pushReg r => some { s with scratch := s.reg r :: s.scratch }
  | .popReg r =>
    match s.scratch with
    | v :: rest => some (State.setReg { s with scratch := rest } r v)
    | _ => none
  | .pushWord w => some { s with scratch := hiByte (s.word w) :: loByte (s.word w) :: s.scratch }
  | .popWord w =>
    match s.scratch with
    | hi :: lo :: rest => some (State.setWord { s with scratch := rest } w (joinBytes hi lo))
    | _ => none
  | .pushHi w => some { s with scratch := hiByte (s.word w) :: s.scratch }
  | .pushLo w => some { s with scratch := loByte (s.word w) :: s.scratch }
  | .dupWord =>
    match s.scratch with
    | hi :: lo :: rest => some { s with scratch := hi :: lo :: hi :: lo :: rest }
    | _ => none
  | .nextAddr =>
    match s.scratch with
    | hi :: lo :: rest =>
      some { s with scratch := hiByte (joinBytes hi lo + 1#16) :: loByte (joinBytes hi lo + 1#16) :: rest }
    | _ => none
  | .drop =>
    match s.scratch with
    | _ :: rest => some { s with scratch := rest }
    | _ => none
  | .incPair p => some (s.setPair p (inc16 (s.pair p)))
  | .decPair p => some (s.setPair p (dec16 (s.pair p)))
  | .alu op =>
    match s.scratch with
    | v :: rest =>
      some { s with scratch := rest, a := (aluApply op s.a v s.fC).1, f := (aluApply op s.a v s.fC).2.applyTo s.f }
    | _ => none
  | .incByte =>
    match s.scratch with
    | v :: rest => some { s with scratch := (inc8 v).1 :: rest, f := (inc8 v).2.applyTo s.f }
    | _ => none
  | .decByte =>
    match s.scratch with
    | v :: rest => some { s with scratch := (dec8 v).1 :: rest, f := (dec8 v).2.applyTo s.f }
    | _ => none
  | .rotA o => some { s with a := (accApply o s.a s.fC).1, f := (accApply o s.a s.fC).2.applyTo s.f }
  | .rotByte o =>
    match s.scratch with
    | v :: rest => some { s with scratch := (rotApply o v s.fC).1 :: rest, f := (rotApply o v s.fC).2.applyTo s.f }
    | _ => none
  | .testBit n =>
    match s.scratch with
    | v :: rest => some { s with scratch := rest, f := (bitFlags n v).applyTo s.f }
    | _ => none
  | .clearBit n =>
    match s.scratch with
    | v :: rest => some { s with scratch := resBit n v :: rest }
    | _ => none
  | .raiseBit n =>
    match s.scratch with
    | v :: rest => some { s with scratch := setBit n v :: rest }
    | _ => none
  | .daa => some { s with a := (daa8 s.a s.fN s.fH s.fC).1, f := (daa8 s.a s.fN s.fH s.fC).2.applyTo s.f }
  | .cpl => some { s with a := (cpl8 s.a).1, f := (cpl8 s.a).2.applyTo s.f }
  | .scf => some (s.setFlags scfFlags)
  | .ccf => some (s.setFlags (ccfFlags s.fC))
  | .addHl =>
    match s.scratch with
    | hi :: lo :: rest =>
      some (State.setPair { s with scratch := rest, f := (add16 s.hl (joinBytes hi lo)).2.applyTo s.f } .hl
        (add16 s.hl (joinBytes hi lo)).1)
    | _ => none
  | .addSp =>
    match s.scratch with
    | e :: rest =>
      some { s with
        scratch := hiByte (addsp s.sp e).1 :: loByte (addsp s.sp e).1 :: rest
        f := (addsp s.sp e).2.applyTo s.f }
    | _ => none
  | .jumpBy =>
    match s.scratch with
    | e :: rest => some { s with scratch := rest, pc := s.pc + sext16 e }
    | _ => none
  | .setPc target => some { s with pc := target }
  | .setIme => some { s with ime := true }
  | .halt => some s.halt
  | .stop => some s.stop
  | .di => some s.di
  | .ei => some s.ei
  | .enterDispatch k => some (s.enterDispatch k)

/-- Immediate steps in order. -/
def runMicros (ms : List Micro) (s : State) : Option State :=
  match ms with
  | [] => some s
  | m :: rest =>
    match m.run s with
    | some t => runMicros rest t
    | none => none

/-- A bus read: the byte goes on the scratch stack. -/
def State.busRead (s : State) (addr : Word) : BusOp × State :=
  (.read addr, { s with scratch := s.read addr :: s.scratch })

/-- A bus write. -/
def State.busWrite (s : State) (addr : Word) (v : Byte) : BusOp × State := (.write addr v, s.write addr v)

/-- The cycle-consuming part of a row; `none` when the scratch stack holds too few bytes. -/
def BusStep.run (b : BusStep) (s : State) : Option (BusOp × State) :=
  match b with
  | .fetch => some (.read s.pc, { s.pastOpcode with scratch := [] })
  | .param => some (.read s.pc, { s.pastParam with scratch := s.read s.pc :: s.scratch })
  | .readPair p => some (s.busRead (s.pair p))
  | .readHighC => some (s.busRead (highPage s.c))
  | .readHigh =>
    match s.scratch with
    | n :: rest => some (State.busRead { s with scratch := rest } (highPage n))
    | _ => none
  | .readAbs =>
    match s.scratch with
    | hi :: lo :: rest => some (State.busRead { s with scratch := rest } (joinBytes hi lo))
    | _ => none
  | .writePair p =>
    match s.scratch with
    | v :: rest => some (State.busWrite { s with scratch := rest } (s.pair p) v)
    | _ => none
  | .writeHighC =>
    match s.scratch with
    | v :: rest => some (State.busWrite { s with scratch := rest } (highPage s.c) v)
    | _ => none
  | .writeHigh =>
    match s.scratch with
    | v :: n :: rest => some (State.busWrite { s with scratch := rest } (highPage n) v)
    | _ => none
  | .writeAbs =>
    match s.scratch with
    | v :: hi :: lo :: rest => some (State.busWrite { s with scratch := rest } (joinBytes hi lo) v)
    | _ => none
  | .stackRead => some (.read s.sp, { s.dropByte with scratch := s.read s.sp :: s.scratch })
  | .stackWrite =>
    match s.scratch with
    | v :: rest => some (.write (s.sp - 1#16) v, State.pushByte { s with scratch := rest } v)
    | _ => none
  | .internal => some (.internal, s)

/-- A whole row: its immediate steps around its bus access (R183). -/
def Row.run (r : Row) (s : State) : Option (BusOp × State) :=
  match runMicros r.pre s with
  | none => none
  | some s1 =>
    match r.bus.run s1 with
    | none => none
    | some (op, s2) =>
      match runMicros r.post s2 with
      | none => none
      | some s3 => some (op, s3)

/-! ## The M-cycle tables -/

/-- A `paramByte` row (R175). -/
def paramRow : Row := { bus := .param }

/-- The micro-steps that bring an operand of table `r8` from a register. -/
def regWork (x : Reg8) (work : List Micro) : List Micro := .pushReg x :: work ++ [.popReg x]

/-- The rows after the opcode fetch's bus access of a `op A,r8[z]` form (R250): the immediate steps of row 1, and the later
rows. -/
def aluRows (op : AluOp) (x : Loc8) : List Micro × List Row :=
  match x with
  | .reg r => ([.pushReg r, .alu op], [])
  | .memHl => ([], [{ bus := .readPair .hl, post := [.alu op] }])

/-- `INC`/`DEC` of an entry of table `r8` (R275 to R278). -/
def incDecRows (work : Micro) (x : Loc8) : List Micro × List Row :=
  match x with
  | .reg r => (regWork r [work], [])
  | .memHl => ([], [{ bus := .readPair .hl }, { pre := [work], bus := .writePair .hl }])

/-- `LD r8[y],r8[z]` and `HALT` (R201, R203, R204, R372). -/
def loadRows (dst src : Loc8) : List Micro × List Row :=
  match dst, src with
  | .reg x, .reg y => ([.pushReg y, .popReg x], [])
  | .reg x, .memHl => ([], [{ bus := .readPair .hl, post := [.popReg x] }])
  | .memHl, .reg y => ([], [{ pre := [.pushReg y], bus := .writePair .hl }])
  | .memHl, .memHl => ([.halt], [])

/-- The word register of table `r16` (R93). -/
def pairReg (p : Nat) : WordReg :=
  match p with
  | 0 => .bc
  | 1 => .de
  | 2 => .hl
  | _ => .sp

/-- The word register of table `r16stk` (R94). -/
def stkReg (p : Nat) : WordReg :=
  match p with
  | 0 => .bc
  | 1 => .de
  | 2 => .hl
  | _ => .af

/-- The rows that pop `PC` (R358). -/
def returnRows : List Row := [{ bus := .stackRead }, { bus := .stackRead }, { post := [.popWord .pc] }]

/-- The two rows that push `PC`, the second followed by `last` (R356, R361). -/
def pushPcRows (last : List Micro) : List Row :=
  [{ pre := [.pushHi .pc], bus := .stackWrite }, { pre := [.pushLo .pc], bus := .stackWrite, post := last }]

/-- Quadrant x = 0 (R99 with the M-cycle tables of the rules it names): the immediate steps of row 1, and the later rows. -/
def rows0 (y z : Nat) : List Micro × List Row :=
  match z with
  | 0 =>
    match y with
    | 0 => ([], [])
    | 1 => ([], [paramRow, paramRow, { pre := [.dupWord, .pushLo .sp], bus := .writeAbs },
        { pre := [.nextAddr, .pushHi .sp], bus := .writeAbs }])
    | 2 => ([.stop], [])
    | 3 => ([], [paramRow, { post := [.jumpBy] }])
    | y => ([], [{ bus := .param, cond := some (cc (y - 4)) }, { post := [.jumpBy] }])
  | 1 =>
    match y % 2 with
    | 0 => ([], [paramRow, { bus := .param, post := [.popWord (pairReg (y / 2))] }])
    | _ => ([], [{ post := [.pushWord (pairReg (y / 2)), .addHl] }])
  | 2 =>
    match y % 2 with
    | 0 =>
      match y / 2 with
      | 0 => ([], [{ pre := [.pushReg .a], bus := .writePair .bc }])
      | 1 => ([], [{ pre := [.pushReg .a], bus := .writePair .de }])
      | 2 => ([], [{ pre := [.pushReg .a], bus := .writePair .hl, post := [.incPair .hl] }])
      | _ => ([], [{ pre := [.pushReg .a], bus := .writePair .hl, post := [.decPair .hl] }])
    | _ =>
      match y / 2 with
      | 0 => ([], [{ bus := .readPair .bc, post := [.popReg .a] }])
      | 1 => ([], [{ bus := .readPair .de, post := [.popReg .a] }])
      | 2 => ([], [{ bus := .readPair .hl, post := [.popReg .a, .incPair .hl] }])
      | _ => ([], [{ bus := .readPair .hl, post := [.popReg .a, .decPair .hl] }])
  | 3 =>
    match y % 2 with
    | 0 => ([], [{ post := [.incPair (r16 (y / 2))] }])
    | _ => ([], [{ post := [.decPair (r16 (y / 2))] }])
  | 4 => incDecRows .incByte (r8 y)
  | 5 => incDecRows .decByte (r8 y)
  | 6 =>
    match r8 y with
    | .reg x => ([], [{ bus := .param, post := [.popReg x] }])
    | .memHl => ([], [paramRow, { bus := .writePair .hl }])
  | _ =>
    match y with
    | 0 => ([.rotA .rlca], [])
    | 1 => ([.rotA .rrca], [])
    | 2 => ([.rotA .rla], [])
    | 3 => ([.rotA .rra], [])
    | 4 => ([.daa], [])
    | 5 => ([.cpl], [])
    | 6 => ([.scf], [])
    | _ => ([.ccf], [])

/-- Quadrant x = 3 (R102, R104 with the M-cycle tables of the rules they name). The row of the prefix is continued by the
CB table's template (R376). -/
def rows3 (y z : Nat) : List Micro × List Row :=
  match z with
  | 0 =>
    match y with
    | 4 => ([], [paramRow, { pre := [.pushReg .a], bus := .writeHigh }])
    | 5 => ([], [paramRow, { post := [.addSp] }, { post := [.popWord .sp] }])
    | 6 => ([], [paramRow, { bus := .readHigh, post := [.popReg .a] }])
    | 7 => ([], [paramRow, { post := [.addSp, .popWord .hl] }])
    | y => ([], { cond := some (cc y) } :: returnRows)
  | 1 =>
    match y % 2 with
    | 0 => ([], [{ bus := .stackRead }, { bus := .stackRead, post := [.popWord (stkReg (y / 2))] }])
    | _ =>
      match y / 2 with
      | 0 => ([], returnRows)
      | 1 => ([], [{ bus := .stackRead }, { bus := .stackRead }, { post := [.popWord .pc, .setIme] }])
      | 2 => ([.pushWord .hl, .popWord .pc], [])
      | _ => ([], [{ post := [.pushWord .hl, .popWord .sp] }])
  | 2 =>
    match y with
    | 4 => ([], [{ pre := [.pushReg .a], bus := .writeHighC }])
    | 5 => ([], [paramRow, paramRow, { pre := [.pushReg .a], bus := .writeAbs }])
    | 6 => ([], [{ bus := .readHighC, post := [.popReg .a] }])
    | 7 => ([], [paramRow, paramRow, { bus := .readAbs, post := [.popReg .a] }])
    | y => ([], [paramRow, { bus := .param, cond := some (cc y) }, { post := [.popWord .pc] }])
  | 3 =>
    match y with
    | 0 => ([], [paramRow, paramRow, { post := [.popWord .pc] }])
    | 1 => ([], [paramRow])
    | 6 => ([.di], [])
    | 7 => ([.ei], [])
    | _ => ([], [])
  | 4 =>
    match y with
    | 4 => ([], [])
    | 5 => ([], [])
    | 6 => ([], [])
    | 7 => ([], [])
    | y => ([], [paramRow, { bus := .param, cond := some (cc y) }, {}] ++ pushPcRows [.popWord .pc])
  | 5 =>
    match y % 2 with
    | 0 => ([.pushWord (stkReg (y / 2))], [{}, { bus := .stackWrite }, { bus := .stackWrite }])
    | _ =>
      match y / 2 with
      | 0 => ([], [paramRow, paramRow, {}] ++ pushPcRows [.popWord .pc])
      | _ => ([], [])
  | 6 => ([], [{ bus := .param, post := [.alu (alu y)] }])
  | _ => ([], {} :: pushPcRows [.setPc (BitVec.ofNat 16 (y * 8))])

/-- The base table's template for an opcode: the immediate steps of row 1 and the later rows (R180). -/
def baseRows (op : Byte) : List Micro × List Row :=
  match fieldX op with
  | 0 => rows0 (fieldY op) (fieldZ op)
  | 1 => loadRows (r8 (fieldY op)) (r8 (fieldZ op))
  | 2 => aluRows (alu (fieldY op)) (r8 (fieldZ op))
  | _ => rows3 (fieldY op) (fieldZ op)

/-- The immediate steps a CB row applies to the byte on the scratch stack; `BIT` writes nothing back (R310). -/
def cbByteWork (op2 : Byte) : List Micro × Bool :=
  match fieldX op2 with
  | 0 => ([.rotByte (rot (fieldY op2))], true)
  | 1 => ([.testBit (index3 (fieldY op2))], false)
  | 2 => ([.clearBit (index3 (fieldY op2))], true)
  | _ => ([.raiseBit (index3 (fieldY op2))], true)

/-- The CB table's template (R310): row 2 reads `opcode2`, which the table has consumed, and does a register form's work; a
`(HL)` form reads in row 3 and writes in row 4. -/
def cbRows (op2 : Byte) : List Row :=
  match r8 (fieldZ op2), (cbByteWork op2).2 with
  | .reg x, true => [{ bus := .param, post := .drop :: regWork x (cbByteWork op2).1 }]
  | .reg x, false => [{ bus := .param, post := .drop :: .pushReg x :: (cbByteWork op2).1 }]
  | .memHl, true =>
    [{ bus := .param, post := [.drop] }, { bus := .readPair .hl, post := (cbByteWork op2).1 }, { bus := .writePair .hl }]
  | .memHl, false => [{ bus := .param, post := [.drop] }, { bus := .readPair .hl, post := (cbByteWork op2).1 }]

/-- The dispatch pipeline's five rows (60_exceptions.md R408). -/
def dispatchRows (k : IrqSource) : List Row :=
  [{ pre := [.enterDispatch k, .pushHi .pc], bus := .stackWrite }, { pre := [.pushLo .pc], bus := .stackWrite }, {}, {},
    { post := [.setPc k.vector] }]

/-- The rows of a template, row 1 first. -/
def Template.rows (t : Template) : List Row :=
  match t with
  | .base op => { bus := .fetch, post := (baseRows op).1 } :: (baseRows op).2
  | .cb op2 => { bus := .fetch } :: cbRows op2
  | .dispatch k => dispatchRows k

/-- Whether the retire of a template commits a scheduled enable: not `EI`, not the dispatch pipeline (R181). -/
def Template.commits (t : Template) : Bool :=
  match t with
  | .base op => decide (op ≠ 0xFB#8)
  | .cb _ => true
  | .dispatch _ => false

/-! ## One machine cycle -/

/-- Row 2 of the prefix's pipeline reads `opcode2` at `PC` and continues with the CB table's template (R376). -/
def Pipe.resolve (p : Pipe) (s : State) : Pipe :=
  if p = ⟨.base 0xCB#8, 2⟩ then ⟨.cb (s.read s.pc), 2⟩ else p

/-- Row `p.row` of the template, then retire or advance the cursor (R172, R181). A conditional node that is not taken ends
the pipeline with its row (R179). -/
def runRow (p : Pipe) (s : State) : Host.Outcome (BusOp × State) Fault Refusal :=
  match p.row with
  | 0 => .fault .danglingCursor
  | n + 1 =>
    match p.template.rows[n]? with
    | none => .fault .danglingCursor
    | some r =>
      match r.run s with
      | none => .fault .scratchUnderflow
      | some (op, t) =>
        if p.template.rows.length = n + 1 || (r.cond.map fun k => !t.cond k) = some true then
          .next (op, t.retire p.template.commits)
        else .next (op, { t with pipe := some ⟨p.template, n + 2⟩ })

/-- The spec's `step()` (R172) with the bus access a peripheral sees: one machine cycle. -/
def cycleWithBus (s : State) : Host.Outcome (BusOp × State) Fault Refusal :=
  match s.pipe with
  | some p => runRow (p.resolve s) s
  | none =>
    match s.boundary with
    | .idle => .next (.internal, s)
    | .dispatch k => runRow ⟨.dispatch k, 1⟩ s.woken
    | .fetch => runRow ⟨.base (s.woken.read s.woken.pc), 1⟩ s.woken

/-- The spec's `step()` (R172): one machine cycle. -/
def cycle (s : State) : Host.Outcome State Fault Refusal :=
  match cycleWithBus s with
  | .next (_, t) => .next t
  | .fault r => .fault r
  | .refused r => .refused r

/-- `n` machine cycles. -/
def cycles (n : Nat) (s : State) : Host.Outcome State Fault Refusal :=
  match n with
  | 0 => .next s
  | k + 1 =>
    match cycle s with
    | .next t => cycles k t
    | .fault r => .fault r
    | .refused r => .refused r

/-- At most `n` machine cycles, up to the boundary at which the pipeline in flight has ended. -/
def cyclesToBoundary (n : Nat) (s : State) : Host.Outcome State Fault Refusal :=
  match n, s.pipe with
  | _, none => .next s
  | 0, some _ => .fault .danglingCursor
  | k + 1, some _ =>
    match cycle s with
    | .next t => cyclesToBoundary k t
    | .fault r => .fault r
    | .refused r => .refused r

/-! ## What a row asks of the scratch stack (R29, R39(b)) -/

/-- How many bytes an immediate step takes from the scratch stack, and how many it leaves. -/
def Micro.arity (m : Micro) : Nat × Nat :=
  match m with
  | .pushReg _ => (0, 1)
  | .popReg _ => (1, 0)
  | .pushWord _ => (0, 2)
  | .popWord _ => (2, 0)
  | .pushHi _ => (0, 1)
  | .pushLo _ => (0, 1)
  | .dupWord => (2, 4)
  | .nextAddr => (2, 2)
  | .drop => (1, 0)
  | .incPair _ => (0, 0)
  | .decPair _ => (0, 0)
  | .alu _ => (1, 0)
  | .incByte => (1, 1)
  | .decByte => (1, 1)
  | .rotA _ => (0, 0)
  | .rotByte _ => (1, 1)
  | .testBit _ => (1, 0)
  | .clearBit _ => (1, 1)
  | .raiseBit _ => (1, 1)
  | .daa => (0, 0)
  | .cpl => (0, 0)
  | .scf => (0, 0)
  | .ccf => (0, 0)
  | .addHl => (2, 0)
  | .addSp => (1, 2)
  | .jumpBy => (1, 0)
  | .setPc _ => (0, 0)
  | .setIme => (0, 0)
  | .halt => (0, 0)
  | .stop => (0, 0)
  | .di => (0, 0)
  | .ei => (0, 0)
  | .enterDispatch _ => (0, 0)

/-- The same for the bus access of a row; the opcode fetch empties the stack first (R174). -/
def BusStep.arity (b : BusStep) : Nat × Nat :=
  match b with
  | .fetch => (0, 0)
  | .param => (0, 1)
  | .readPair _ => (0, 1)
  | .readHighC => (0, 1)
  | .readHigh => (1, 1)
  | .readAbs => (2, 1)
  | .writePair _ => (1, 0)
  | .writeHighC => (1, 0)
  | .writeHigh => (2, 0)
  | .writeAbs => (3, 0)
  | .stackRead => (0, 1)
  | .stackWrite => (1, 0)
  | .internal => (0, 0)

/-- The depth after a list of takes and leaves; `none` at an underflow. -/
def depthAfter (steps : List (Nat × Nat)) (depth : Nat) : Option Nat :=
  match steps with
  | [] => some depth
  | (takes, leaves) :: rest => if depth < takes then none else depthAfter rest (depth - takes + leaves)

/-- The depth after a row. -/
def Row.depth (r : Row) (depth : Nat) : Option Nat :=
  depthAfter (r.pre.map Micro.arity ++ [r.bus.arity] ++ r.post.map Micro.arity) depth

/-- The depth after a list of rows, from an empty stack before the first. -/
def rowsDepth (rs : List Row) (depth : Nat) : Option Nat :=
  match rs with
  | [] => some depth
  | r :: rest =>
    match r.depth depth with
    | some k => rowsDepth rest k
    | none => none

/-- The depth of the scratch stack when row `n` of a template is the next to run. -/
def Template.depthBefore (t : Template) (n : Nat) : Option Nat := rowsDepth (t.rows.take (n - 1)) 0

end Sys2Proof.Machine
end

