-- ==== Sys2Proof/Machine/Arith16.lean ====
section
/-! DEFINITION. The 16-bit arithmetic of 45_arith16.md (R300 to R304). -/

namespace Sys2Proof.Machine

/-! ## Shared operations -/

/-- `ADD HL,rr` (R301). -/
def addToHl (p : Pair16) (s : State) : State :=
  ((s.past 1).setFlags (add16 s.hl (s.pair p)).2).setPair .hl (add16 s.hl (s.pair p)).1

/-- `INC rr` (R302): no flag. -/
def incrementPair (p : Pair16) (s : State) : State := (s.past 1).setPair p (inc16 (s.pair p))

/-- `DEC rr` (R303): no flag. -/
def decrementPair (p : Pair16) (s : State) : State := (s.past 1).setPair p (dec16 (s.pair p))

/-- `ADD SP,e` (R304). -/
def addToSp (e : Byte) (s : State) : State := ((s.past 2).setFlags (addsp s.sp e).2).setPair .sp (addsp s.sp e).1

/-! ## One definition per instruction -/

/-- `INC BC` (0x03, R302). -/
def execIncBc (s : State) : Result := .next (incrementPair .bc s)

/-- `ADD HL,BC` (0x09, R301). -/
def execAddHlBc (s : State) : Result := .next (addToHl .bc s)

/-- `DEC BC` (0x0B, R303). -/
def execDecBc (s : State) : Result := .next (decrementPair .bc s)

/-- `INC DE` (0x13, R302). -/
def execIncDe (s : State) : Result := .next (incrementPair .de s)

/-- `ADD HL,DE` (0x19, R301). -/
def execAddHlDe (s : State) : Result := .next (addToHl .de s)

/-- `DEC DE` (0x1B, R303). -/
def execDecDe (s : State) : Result := .next (decrementPair .de s)

/-- `INC HL` (0x23, R302). -/
def execIncHl (s : State) : Result := .next (incrementPair .hl s)

/-- `ADD HL,HL` (0x29, R301). -/
def execAddHlHl (s : State) : Result := .next (addToHl .hl s)

/-- `DEC HL` (0x2B, R303). -/
def execDecHl (s : State) : Result := .next (decrementPair .hl s)

/-- `INC SP` (0x33, R302). -/
def execIncSp (s : State) : Result := .next (incrementPair .sp s)

/-- `ADD HL,SP` (0x39, R301). -/
def execAddHlSp (s : State) : Result := .next (addToHl .sp s)

/-- `DEC SP` (0x3B, R303). -/
def execDecSp (s : State) : Result := .next (decrementPair .sp s)

/-- `ADD SP,e` (0xE8, R304). -/
def execAddSpE (e : Byte) (s : State) : Result := .next (addToSp e s)

end Sys2Proof.Machine
end

