-- ==== Sys2Proof/Machine/Arith8.lean ====
section
/-! DEFINITION. The 8-bit arithmetic and logic of 44_arith8.md (R250 to R282). -/

namespace Sys2Proof.Machine

/-! ## Shared operations -/

/-- "apply" of R250: `(res, flags) <- f(A, b [, fC]); A <- res`; the incoming carry is read before `F` is written. -/
def State.alu (s : State) (op : AluOp) (b : Byte) : State :=
  (s.setReg .a (aluApply op s.a b s.fC).1).setFlags (aluApply op s.a b s.fC).2

/-- `op A,r` (R250). -/
def aluRegister (op : AluOp) (r : Reg8) (s : State) : State := (s.past 1).alu op (s.reg r)

/-- `op A,(HL)` (R250). -/
def aluMemory (op : AluOp) (s : State) : State := (s.past 1).alu op (s.read s.hl)

/-- `op A,n` (R250). -/
def aluImmediate (op : AluOp) (n : Byte) (s : State) : State := (s.past 2).alu op n

/-- `INC r` (R275). -/
def incRegister (r : Reg8) (s : State) : State := ((s.past 1).setFlags (inc8 (s.reg r)).2).setReg r (inc8 (s.reg r)).1

/-- `DEC r` (R277). -/
def decRegister (r : Reg8) (s : State) : State := ((s.past 1).setFlags (dec8 (s.reg r)).2).setReg r (dec8 (s.reg r)).1

/-- `INC (HL)` (R276). -/
def incMemory (s : State) : State :=
  ((s.past 1).setFlags (inc8 (s.read s.hl)).2).write s.hl (inc8 (s.read s.hl)).1

/-- `DEC (HL)` (R278). -/
def decMemory (s : State) : State :=
  ((s.past 1).setFlags (dec8 (s.read s.hl)).2).write s.hl (dec8 (s.read s.hl)).1

/-- `DAA` (R279). -/
def adjustA (s : State) : State :=
  ((s.past 1).setReg .a (daa8 s.a s.fN s.fH s.fC).1).setFlags (daa8 s.a s.fN s.fH s.fC).2

/-- `CPL` (R280). -/
def complementA (s : State) : State := ((s.past 1).setReg .a (cpl8 s.a).1).setFlags (cpl8 s.a).2

/-- `SCF` (R281). -/
def setCarry (s : State) : State := (s.past 1).setFlags scfFlags

/-- `CCF` (R282). -/
def complementCarry (s : State) : State := (s.past 1).setFlags (ccfFlags s.fC)

/-! ## One definition per instruction -/

/-- `INC B` (0x04, R275). -/
def execIncB (s : State) : Result := .next (incRegister .b s)

/-- `DEC B` (0x05, R277). -/
def execDecB (s : State) : Result := .next (decRegister .b s)

/-- `INC C` (0x0C, R275). -/
def execIncC (s : State) : Result := .next (incRegister .c s)

/-- `DEC C` (0x0D, R277). -/
def execDecC (s : State) : Result := .next (decRegister .c s)

/-- `INC D` (0x14, R275). -/
def execIncD (s : State) : Result := .next (incRegister .d s)

/-- `DEC D` (0x15, R277). -/
def execDecD (s : State) : Result := .next (decRegister .d s)

/-- `INC E` (0x1C, R275). -/
def execIncE (s : State) : Result := .next (incRegister .e s)

/-- `DEC E` (0x1D, R277). -/
def execDecE (s : State) : Result := .next (decRegister .e s)

/-- `INC H` (0x24, R275). -/
def execIncH (s : State) : Result := .next (incRegister .h s)

/-- `DEC H` (0x25, R277). -/
def execDecH (s : State) : Result := .next (decRegister .h s)

/-- `DAA` (0x27, R279). -/
def execDaa (s : State) : Result := .next (adjustA s)

/-- `INC L` (0x2C, R275). -/
def execIncL (s : State) : Result := .next (incRegister .l s)

/-- `DEC L` (0x2D, R277). -/
def execDecL (s : State) : Result := .next (decRegister .l s)

/-- `CPL` (0x2F, R280). -/
def execCpl (s : State) : Result := .next (complementA s)

/-- `INC (HL)` (0x34, R276). -/
def execIncMemHl (s : State) : Result := .next (incMemory s)

/-- `DEC (HL)` (0x35, R278). -/
def execDecMemHl (s : State) : Result := .next (decMemory s)

/-- `SCF` (0x37, R281). -/
def execScf (s : State) : Result := .next (setCarry s)

/-- `INC A` (0x3C, R275). -/
def execIncA (s : State) : Result := .next (incRegister .a s)

/-- `DEC A` (0x3D, R277). -/
def execDecA (s : State) : Result := .next (decRegister .a s)

/-- `CCF` (0x3F, R282). -/
def execCcf (s : State) : Result := .next (complementCarry s)

/-- `ADD A,B` (0x80, R251). -/
def execAddAB (s : State) : Result := .next (aluRegister .add .b s)

/-- `ADD A,C` (0x81, R251). -/
def execAddAC (s : State) : Result := .next (aluRegister .add .c s)

/-- `ADD A,D` (0x82, R251). -/
def execAddAD (s : State) : Result := .next (aluRegister .add .d s)

/-- `ADD A,E` (0x83, R251). -/
def execAddAE (s : State) : Result := .next (aluRegister .add .e s)

/-- `ADD A,H` (0x84, R251). -/
def execAddAH (s : State) : Result := .next (aluRegister .add .h s)

/-- `ADD A,L` (0x85, R251). -/
def execAddAL (s : State) : Result := .next (aluRegister .add .l s)

/-- `ADD A,(HL)` (0x86, R252). -/
def execAddAMemHl (s : State) : Result := .next (aluMemory .add s)

/-- `ADD A,A` (0x87, R251). -/
def execAddAA (s : State) : Result := .next (aluRegister .add .a s)

/-- `ADC A,B` (0x88, R254). -/
def execAdcAB (s : State) : Result := .next (aluRegister .adc .b s)

/-- `ADC A,C` (0x89, R254). -/
def execAdcAC (s : State) : Result := .next (aluRegister .adc .c s)

/-- `ADC A,D` (0x8A, R254). -/
def execAdcAD (s : State) : Result := .next (aluRegister .adc .d s)

/-- `ADC A,E` (0x8B, R254). -/
def execAdcAE (s : State) : Result := .next (aluRegister .adc .e s)

/-- `ADC A,H` (0x8C, R254). -/
def execAdcAH (s : State) : Result := .next (aluRegister .adc .h s)

/-- `ADC A,L` (0x8D, R254). -/
def execAdcAL (s : State) : Result := .next (aluRegister .adc .l s)

/-- `ADC A,(HL)` (0x8E, R255). -/
def execAdcAMemHl (s : State) : Result := .next (aluMemory .adc s)

/-- `ADC A,A` (0x8F, R254). -/
def execAdcAA (s : State) : Result := .next (aluRegister .adc .a s)

/-- `SUB A,B` (0x90, R257). -/
def execSubAB (s : State) : Result := .next (aluRegister .sub .b s)

/-- `SUB A,C` (0x91, R257). -/
def execSubAC (s : State) : Result := .next (aluRegister .sub .c s)

/-- `SUB A,D` (0x92, R257). -/
def execSubAD (s : State) : Result := .next (aluRegister .sub .d s)

/-- `SUB A,E` (0x93, R257). -/
def execSubAE (s : State) : Result := .next (aluRegister .sub .e s)

/-- `SUB A,H` (0x94, R257). -/
def execSubAH (s : State) : Result := .next (aluRegister .sub .h s)

/-- `SUB A,L` (0x95, R257). -/
def execSubAL (s : State) : Result := .next (aluRegister .sub .l s)

/-- `SUB A,(HL)` (0x96, R258). -/
def execSubAMemHl (s : State) : Result := .next (aluMemory .sub s)

/-- `SUB A,A` (0x97, R257). -/
def execSubAA (s : State) : Result := .next (aluRegister .sub .a s)

/-- `SBC A,B` (0x98, R260). -/
def execSbcAB (s : State) : Result := .next (aluRegister .sbc .b s)

/-- `SBC A,C` (0x99, R260). -/
def execSbcAC (s : State) : Result := .next (aluRegister .sbc .c s)

/-- `SBC A,D` (0x9A, R260). -/
def execSbcAD (s : State) : Result := .next (aluRegister .sbc .d s)

/-- `SBC A,E` (0x9B, R260). -/
def execSbcAE (s : State) : Result := .next (aluRegister .sbc .e s)

/-- `SBC A,H` (0x9C, R260). -/
def execSbcAH (s : State) : Result := .next (aluRegister .sbc .h s)

/-- `SBC A,L` (0x9D, R260). -/
def execSbcAL (s : State) : Result := .next (aluRegister .sbc .l s)

/-- `SBC A,(HL)` (0x9E, R261). -/
def execSbcAMemHl (s : State) : Result := .next (aluMemory .sbc s)

/-- `SBC A,A` (0x9F, R260). -/
def execSbcAA (s : State) : Result := .next (aluRegister .sbc .a s)

/-- `AND A,B` (0xA0, R263). -/
def execAndAB (s : State) : Result := .next (aluRegister .and .b s)

/-- `AND A,C` (0xA1, R263). -/
def execAndAC (s : State) : Result := .next (aluRegister .and .c s)

/-- `AND A,D` (0xA2, R263). -/
def execAndAD (s : State) : Result := .next (aluRegister .and .d s)

/-- `AND A,E` (0xA3, R263). -/
def execAndAE (s : State) : Result := .next (aluRegister .and .e s)

/-- `AND A,H` (0xA4, R263). -/
def execAndAH (s : State) : Result := .next (aluRegister .and .h s)

/-- `AND A,L` (0xA5, R263). -/
def execAndAL (s : State) : Result := .next (aluRegister .and .l s)

/-- `AND A,(HL)` (0xA6, R264). -/
def execAndAMemHl (s : State) : Result := .next (aluMemory .and s)

/-- `AND A,A` (0xA7, R263). -/
def execAndAA (s : State) : Result := .next (aluRegister .and .a s)

/-- `XOR A,B` (0xA8, R266). -/
def execXorAB (s : State) : Result := .next (aluRegister .xor .b s)

/-- `XOR A,C` (0xA9, R266). -/
def execXorAC (s : State) : Result := .next (aluRegister .xor .c s)

/-- `XOR A,D` (0xAA, R266). -/
def execXorAD (s : State) : Result := .next (aluRegister .xor .d s)

/-- `XOR A,E` (0xAB, R266). -/
def execXorAE (s : State) : Result := .next (aluRegister .xor .e s)

/-- `XOR A,H` (0xAC, R266). -/
def execXorAH (s : State) : Result := .next (aluRegister .xor .h s)

/-- `XOR A,L` (0xAD, R266). -/
def execXorAL (s : State) : Result := .next (aluRegister .xor .l s)

/-- `XOR A,(HL)` (0xAE, R267). -/
def execXorAMemHl (s : State) : Result := .next (aluMemory .xor s)

/-- `XOR A,A` (0xAF, R266). -/
def execXorAA (s : State) : Result := .next (aluRegister .xor .a s)

/-- `OR A,B` (0xB0, R269). -/
def execOrAB (s : State) : Result := .next (aluRegister .or .b s)

/-- `OR A,C` (0xB1, R269). -/
def execOrAC (s : State) : Result := .next (aluRegister .or .c s)

/-- `OR A,D` (0xB2, R269). -/
def execOrAD (s : State) : Result := .next (aluRegister .or .d s)

/-- `OR A,E` (0xB3, R269). -/
def execOrAE (s : State) : Result := .next (aluRegister .or .e s)

/-- `OR A,H` (0xB4, R269). -/
def execOrAH (s : State) : Result := .next (aluRegister .or .h s)

/-- `OR A,L` (0xB5, R269). -/
def execOrAL (s : State) : Result := .next (aluRegister .or .l s)

/-- `OR A,(HL)` (0xB6, R270). -/
def execOrAMemHl (s : State) : Result := .next (aluMemory .or s)

/-- `OR A,A` (0xB7, R269). -/
def execOrAA (s : State) : Result := .next (aluRegister .or .a s)

/-- `CP A,B` (0xB8, R272). -/
def execCpAB (s : State) : Result := .next (aluRegister .cp .b s)

/-- `CP A,C` (0xB9, R272). -/
def execCpAC (s : State) : Result := .next (aluRegister .cp .c s)

/-- `CP A,D` (0xBA, R272). -/
def execCpAD (s : State) : Result := .next (aluRegister .cp .d s)

/-- `CP A,E` (0xBB, R272). -/
def execCpAE (s : State) : Result := .next (aluRegister .cp .e s)

/-- `CP A,H` (0xBC, R272). -/
def execCpAH (s : State) : Result := .next (aluRegister .cp .h s)

/-- `CP A,L` (0xBD, R272). -/
def execCpAL (s : State) : Result := .next (aluRegister .cp .l s)

/-- `CP A,(HL)` (0xBE, R273). -/
def execCpAMemHl (s : State) : Result := .next (aluMemory .cp s)

/-- `CP A,A` (0xBF, R272). -/
def execCpAA (s : State) : Result := .next (aluRegister .cp .a s)

/-- `ADD A,n` (0xC6, R253). -/
def execAddAN (n : Byte) (s : State) : Result := .next (aluImmediate .add n s)

/-- `ADC A,n` (0xCE, R256). -/
def execAdcAN (n : Byte) (s : State) : Result := .next (aluImmediate .adc n s)

/-- `SUB A,n` (0xD6, R259). -/
def execSubAN (n : Byte) (s : State) : Result := .next (aluImmediate .sub n s)

/-- `SBC A,n` (0xDE, R262). -/
def execSbcAN (n : Byte) (s : State) : Result := .next (aluImmediate .sbc n s)

/-- `AND A,n` (0xE6, R265). -/
def execAndAN (n : Byte) (s : State) : Result := .next (aluImmediate .and n s)

/-- `XOR A,n` (0xEE, R268). -/
def execXorAN (n : Byte) (s : State) : Result := .next (aluImmediate .xor n s)

/-- `OR A,n` (0xF6, R271). -/
def execOrAN (n : Byte) (s : State) : Result := .next (aluImmediate .or n s)

/-- `CP A,n` (0xFE, R274). -/
def execCpAN (n : Byte) (s : State) : Result := .next (aluImmediate .cp n s)

end Sys2Proof.Machine
end

