-- ==== Sys2Proof/Machine/Control.lean ====
section
/-! DEFINITION. The control transfers of 47_control.md (R350 to R361). None writes a flag. -/

namespace Sys2Proof.Machine

/-! ## Shared operations -/

/-- `PC <- target`. -/
def State.jump (s : State) (target : Word) : State := { s with pc := target }

/-- The return address pushed, then `PC <- target` (R356, R361): the state's `PC` is past the instruction. -/
def State.call (s : State) (target : Word) : State := (s.pushWord s.pc).jump target

/-- One of two states, by the conditional node (R179, R350). -/
def State.branch (s : State) (taken : Bool) (go : State → State) : State := if taken then go s else s

/-- `JP nn` (R351). -/
def jumpTo (nn : Word) (s : State) : State := (s.past 3).jump nn

/-- `JP cc,nn` (R352). -/
def jumpIf (k : Cond) (nn : Word) (s : State) : State := (s.past 3).branch (s.cond k) (·.jump nn)

/-- `JP HL` (R353). -/
def jumpHl (s : State) : State := (s.past 1).jump s.hl

/-- `PC <- PC + sext_16(e)`, on the `PC` past the displacement byte (R354, R98). -/
def State.jumpBy (s : State) (e : Byte) : State := s.jump (s.pc + sext16 e)

/-- `JR e` (R354). -/
def jumpRelative (e : Byte) (s : State) : State := (s.past 2).jumpBy e

/-- `JR cc,e` (R355). -/
def jumpRelativeIf (k : Cond) (e : Byte) (s : State) : State := (s.past 2).branch (s.cond k) (·.jumpBy e)

/-- `CALL nn` (R356). -/
def callTo (nn : Word) (s : State) : State := (s.past 3).call nn

/-- `CALL cc,nn` (R357). -/
def callIf (k : Cond) (nn : Word) (s : State) : State := (s.past 3).branch (s.cond k) (·.call nn)

/-- `RET` (R358). -/
def returnFrom (s : State) : State := (s.past 1).returnTo false

/-- `RET cc` (R359). -/
def returnIf (k : Cond) (s : State) : State := (s.past 1).branch (s.cond k) (·.returnTo false)

/-- `RETI` (R360): `IME` set at once; `IME_SCHED` left as it is. -/
def returnEnabling (s : State) : State := (s.past 1).returnTo true

/-- `RST t` with `t = y * 8` (R361). -/
def restart (y : Fin 8) (s : State) : State := (s.past 1).call (BitVec.ofNat 16 (8 * y.val))

/-! ## One definition per instruction -/

/-- `JR e` (0x18, R354). -/
def execJrE (e : Byte) (s : State) : Result := .next (jumpRelative e s)

/-- `JR NZ,e` (0x20, R355). -/
def execJrNzE (e : Byte) (s : State) : Result := .next (jumpRelativeIf .nz e s)

/-- `JR Z,e` (0x28, R355). -/
def execJrZE (e : Byte) (s : State) : Result := .next (jumpRelativeIf .z e s)

/-- `JR NC,e` (0x30, R355). -/
def execJrNcE (e : Byte) (s : State) : Result := .next (jumpRelativeIf .nc e s)

/-- `JR C,e` (0x38, R355). -/
def execJrCE (e : Byte) (s : State) : Result := .next (jumpRelativeIf .c e s)

/-- `RET NZ` (0xC0, R359). -/
def execRetNz (s : State) : Result := .next (returnIf .nz s)

/-- `JP NZ,nn` (0xC2, R352). -/
def execJpNzNn (nn : Word) (s : State) : Result := .next (jumpIf .nz nn s)

/-- `JP nn` (0xC3, R351). -/
def execJpNn (nn : Word) (s : State) : Result := .next (jumpTo nn s)

/-- `CALL NZ,nn` (0xC4, R357). -/
def execCallNzNn (nn : Word) (s : State) : Result := .next (callIf .nz nn s)

/-- `RST 0x00` (0xC7, R361). -/
def execRst00 (s : State) : Result := .next (restart 0 s)

/-- `RET Z` (0xC8, R359). -/
def execRetZ (s : State) : Result := .next (returnIf .z s)

/-- `RET` (0xC9, R358). -/
def execRet (s : State) : Result := .next (returnFrom s)

/-- `JP Z,nn` (0xCA, R352). -/
def execJpZNn (nn : Word) (s : State) : Result := .next (jumpIf .z nn s)

/-- `CALL Z,nn` (0xCC, R357). -/
def execCallZNn (nn : Word) (s : State) : Result := .next (callIf .z nn s)

/-- `CALL nn` (0xCD, R356). -/
def execCallNn (nn : Word) (s : State) : Result := .next (callTo nn s)

/-- `RST 0x08` (0xCF, R361). -/
def execRst08 (s : State) : Result := .next (restart 1 s)

/-- `RET NC` (0xD0, R359). -/
def execRetNc (s : State) : Result := .next (returnIf .nc s)

/-- `JP NC,nn` (0xD2, R352). -/
def execJpNcNn (nn : Word) (s : State) : Result := .next (jumpIf .nc nn s)

/-- `CALL NC,nn` (0xD4, R357). -/
def execCallNcNn (nn : Word) (s : State) : Result := .next (callIf .nc nn s)

/-- `RST 0x10` (0xD7, R361). -/
def execRst10 (s : State) : Result := .next (restart 2 s)

/-- `RET C` (0xD8, R359). -/
def execRetC (s : State) : Result := .next (returnIf .c s)

/-- `RETI` (0xD9, R360). -/
def execReti (s : State) : Result := .next (returnEnabling s)

/-- `JP C,nn` (0xDA, R352). -/
def execJpCNn (nn : Word) (s : State) : Result := .next (jumpIf .c nn s)

/-- `CALL C,nn` (0xDC, R357). -/
def execCallCNn (nn : Word) (s : State) : Result := .next (callIf .c nn s)

/-- `RST 0x18` (0xDF, R361). -/
def execRst18 (s : State) : Result := .next (restart 3 s)

/-- `RST 0x20` (0xE7, R361). -/
def execRst20 (s : State) : Result := .next (restart 4 s)

/-- `JP HL` (0xE9, R353). -/
def execJpHl (s : State) : Result := .next (jumpHl s)

/-- `RST 0x28` (0xEF, R361). -/
def execRst28 (s : State) : Result := .next (restart 5 s)

/-- `RST 0x30` (0xF7, R361). -/
def execRst30 (s : State) : Result := .next (restart 6 s)

/-- `RST 0x38` (0xFF, R361). -/
def execRst38 (s : State) : Result := .next (restart 7 s)

end Sys2Proof.Machine
end

