-- ==== Sys2Proof/Machine/Load16.lean ====
section
/-! DEFINITION. The 16-bit loads, pushes and pops of 43_load16.md (R230 to R237). -/

namespace Sys2Proof.Machine

/-! ## Shared operations -/

/-- `r16[p] <- nn` (R231). -/
def loadPairImm (p : Pair16) (nn : Word) (s : State) : State := (s.past 3).setPair p nn

/-- `MemWrite(nn, 1, SP[7:0]); MemWrite(nn+1, 1, SP[15:8])` (R232). -/
def storeAbsSp (nn : Word) (s : State) : State :=
  ((s.past 3).write nn (loByte s.sp)).write (nn + 1#16) (hiByte s.sp)

/-- `SP <- HL` (R233). -/
def loadSpHl (s : State) : State := (s.past 1).setPair .sp s.hl

/-- `PUSH qq` (R234). -/
def pushPair (q : StkPair) (s : State) : State := (s.past 1).pushWord (s.stk q)

/-- `POP qq` (R235, R236). -/
def popPair (q : StkPair) (s : State) : State := ((s.past 1).dropWord).setStk q s.topWord

/-- `HL <- SP + e` with the flags of `addsp` (R237). -/
def loadHlSpPlus (e : Byte) (s : State) : State := ((s.past 2).setFlags (addsp s.sp e).2).setPair .hl (addsp s.sp e).1

/-! ## One definition per instruction -/

/-- `LD BC,nn` (0x01, R231). -/
def execLdBcNn (nn : Word) (s : State) : Result := .next (loadPairImm .bc nn s)

/-- `LD (nn),SP` (0x08, R232). -/
def execLdMemNnSp (nn : Word) (s : State) : Result := .next (storeAbsSp nn s)

/-- `LD DE,nn` (0x11, R231). -/
def execLdDeNn (nn : Word) (s : State) : Result := .next (loadPairImm .de nn s)

/-- `LD HL,nn` (0x21, R231). -/
def execLdHlNn (nn : Word) (s : State) : Result := .next (loadPairImm .hl nn s)

/-- `LD SP,nn` (0x31, R231). -/
def execLdSpNn (nn : Word) (s : State) : Result := .next (loadPairImm .sp nn s)

/-- `POP BC` (0xC1, R235). -/
def execPopBc (s : State) : Result := .next (popPair .bc s)

/-- `PUSH BC` (0xC5, R234). -/
def execPushBc (s : State) : Result := .next (pushPair .bc s)

/-- `POP DE` (0xD1, R235). -/
def execPopDe (s : State) : Result := .next (popPair .de s)

/-- `PUSH DE` (0xD5, R234). -/
def execPushDe (s : State) : Result := .next (pushPair .de s)

/-- `POP HL` (0xE1, R235). -/
def execPopHl (s : State) : Result := .next (popPair .hl s)

/-- `PUSH HL` (0xE5, R234). -/
def execPushHl (s : State) : Result := .next (pushPair .hl s)

/-- `POP AF` (0xF1, R236). -/
def execPopAf (s : State) : Result := .next (popPair .af s)

/-- `PUSH AF` (0xF5, R234). -/
def execPushAf (s : State) : Result := .next (pushPair .af s)

/-- `LD HL,SP+e` (0xF8, R237). -/
def execLdHlSpE (e : Byte) (s : State) : Result := .next (loadHlSpPlus e s)

/-- `LD SP,HL` (0xF9, R233). -/
def execLdSpHl (s : State) : Result := .next (loadSpHl s)

end Sys2Proof.Machine
end

