-- ==== Sys2Proof/Machine/Load8.lean ====
section
/-! DEFINITION. The 8-bit loads and stores of 42_load8.md (R200 to R219). None writes a flag. -/

namespace Sys2Proof.Machine

/-! ## Shared operations -/

/-- `r8[y] <- r8[z]` (R201). -/
def loadRegReg (dst src : Reg8) (s : State) : State := (s.past 1).setReg dst (s.reg src)

/-- `r8[y] <- n` (R202). -/
def loadRegImm (dst : Reg8) (n : Byte) (s : State) : State := (s.past 2).setReg dst n

/-- `r8[y] <- MemRead(HL, 1)` (R203): the address is the old `HL`. -/
def loadRegMem (dst : Reg8) (s : State) : State := (s.past 1).setReg dst (s.read s.hl)

/-- `MemWrite(HL, 1, r8[z])` (R204). -/
def storeMemReg (src : Reg8) (s : State) : State := (s.past 1).write s.hl (s.reg src)

/-- `MemWrite(HL, 1, n)` (R205). -/
def storeMemImm (n : Byte) (s : State) : State := (s.past 2).write s.hl n

/-- `A <- MemRead(addr, 1)` through a register pair, then the step of `HL` (R206, R207, R216, R218). -/
def loadAIndirect (m : Indirect) (s : State) : State :=
  ((s.past 1).setReg .a (s.read (s.indirectAddr m))).indirectStep m

/-- `MemWrite(addr, 1, A)` through a register pair, then the step of `HL` (R208, R209, R217, R219). -/
def storeIndirectA (m : Indirect) (s : State) : State := ((s.past 1).write (s.indirectAddr m) s.a).indirectStep m

/-- `A <- MemRead(nn, 1)` (R210). -/
def loadAAbs (nn : Word) (s : State) : State := (s.past 3).setReg .a (s.read nn)

/-- `MemWrite(nn, 1, A)` (R211). -/
def storeAbsA (nn : Word) (s : State) : State := (s.past 3).write nn s.a

/-- `A <- MemRead(0xFF00 + C, 1)` (R212). -/
def loadAHighC (s : State) : State := (s.past 1).setReg .a (s.read (highPage s.c))

/-- `MemWrite(0xFF00 + C, 1, A)` (R213). -/
def storeHighCA (s : State) : State := (s.past 1).write (highPage s.c) s.a

/-- `A <- MemRead(0xFF00 + n, 1)` (R214). -/
def loadAHigh (n : Byte) (s : State) : State := (s.past 2).setReg .a (s.read (highPage n))

/-- `MemWrite(0xFF00 + n, 1, A)` (R215). -/
def storeHighA (n : Byte) (s : State) : State := (s.past 2).write (highPage n) s.a

/-! ## One definition per instruction -/

/-- `LD (BC),A` (0x02, R208). -/
def execLdMemBcA (s : State) : Result := .next (storeIndirectA .bc s)

/-- `LD B,n` (0x06, R202). -/
def execLdBN (n : Byte) (s : State) : Result := .next (loadRegImm .b n s)

/-- `LD A,(BC)` (0x0A, R206). -/
def execLdAMemBc (s : State) : Result := .next (loadAIndirect .bc s)

/-- `LD C,n` (0x0E, R202). -/
def execLdCN (n : Byte) (s : State) : Result := .next (loadRegImm .c n s)

/-- `LD (DE),A` (0x12, R209). -/
def execLdMemDeA (s : State) : Result := .next (storeIndirectA .de s)

/-- `LD D,n` (0x16, R202). -/
def execLdDN (n : Byte) (s : State) : Result := .next (loadRegImm .d n s)

/-- `LD A,(DE)` (0x1A, R207). -/
def execLdAMemDe (s : State) : Result := .next (loadAIndirect .de s)

/-- `LD E,n` (0x1E, R202). -/
def execLdEN (n : Byte) (s : State) : Result := .next (loadRegImm .e n s)

/-- `LD (HL+),A` (0x22, R219). -/
def execLdMemHlIncA (s : State) : Result := .next (storeIndirectA .hlInc s)

/-- `LD H,n` (0x26, R202). -/
def execLdHN (n : Byte) (s : State) : Result := .next (loadRegImm .h n s)

/-- `LD A,(HL+)` (0x2A, R218). -/
def execLdAMemHlInc (s : State) : Result := .next (loadAIndirect .hlInc s)

/-- `LD L,n` (0x2E, R202). -/
def execLdLN (n : Byte) (s : State) : Result := .next (loadRegImm .l n s)

/-- `LD (HL-),A` (0x32, R217). -/
def execLdMemHlDecA (s : State) : Result := .next (storeIndirectA .hlDec s)

/-- `LD (HL),n` (0x36, R205). -/
def execLdMemHlN (n : Byte) (s : State) : Result := .next (storeMemImm n s)

/-- `LD A,(HL-)` (0x3A, R216). -/
def execLdAMemHlDec (s : State) : Result := .next (loadAIndirect .hlDec s)

/-- `LD A,n` (0x3E, R202). -/
def execLdAN (n : Byte) (s : State) : Result := .next (loadRegImm .a n s)

/-- `LD B,B` (0x40, R201). -/
def execLdBB (s : State) : Result := .next (loadRegReg .b .b s)

/-- `LD B,C` (0x41, R201). -/
def execLdBC (s : State) : Result := .next (loadRegReg .b .c s)

/-- `LD B,D` (0x42, R201). -/
def execLdBD (s : State) : Result := .next (loadRegReg .b .d s)

/-- `LD B,E` (0x43, R201). -/
def execLdBE (s : State) : Result := .next (loadRegReg .b .e s)

/-- `LD B,H` (0x44, R201). -/
def execLdBH (s : State) : Result := .next (loadRegReg .b .h s)

/-- `LD B,L` (0x45, R201). -/
def execLdBL (s : State) : Result := .next (loadRegReg .b .l s)

/-- `LD B,(HL)` (0x46, R203). -/
def execLdBMemHl (s : State) : Result := .next (loadRegMem .b s)

/-- `LD B,A` (0x47, R201). -/
def execLdBA (s : State) : Result := .next (loadRegReg .b .a s)

/-- `LD C,B` (0x48, R201). -/
def execLdCB (s : State) : Result := .next (loadRegReg .c .b s)

/-- `LD C,C` (0x49, R201). -/
def execLdCC (s : State) : Result := .next (loadRegReg .c .c s)

/-- `LD C,D` (0x4A, R201). -/
def execLdCD (s : State) : Result := .next (loadRegReg .c .d s)

/-- `LD C,E` (0x4B, R201). -/
def execLdCE (s : State) : Result := .next (loadRegReg .c .e s)

/-- `LD C,H` (0x4C, R201). -/
def execLdCH (s : State) : Result := .next (loadRegReg .c .h s)

/-- `LD C,L` (0x4D, R201). -/
def execLdCL (s : State) : Result := .next (loadRegReg .c .l s)

/-- `LD C,(HL)` (0x4E, R203). -/
def execLdCMemHl (s : State) : Result := .next (loadRegMem .c s)

/-- `LD C,A` (0x4F, R201). -/
def execLdCA (s : State) : Result := .next (loadRegReg .c .a s)

/-- `LD D,B` (0x50, R201). -/
def execLdDB (s : State) : Result := .next (loadRegReg .d .b s)

/-- `LD D,C` (0x51, R201). -/
def execLdDC (s : State) : Result := .next (loadRegReg .d .c s)

/-- `LD D,D` (0x52, R201). -/
def execLdDD (s : State) : Result := .next (loadRegReg .d .d s)

/-- `LD D,E` (0x53, R201). -/
def execLdDE (s : State) : Result := .next (loadRegReg .d .e s)

/-- `LD D,H` (0x54, R201). -/
def execLdDH (s : State) : Result := .next (loadRegReg .d .h s)

/-- `LD D,L` (0x55, R201). -/
def execLdDL (s : State) : Result := .next (loadRegReg .d .l s)

/-- `LD D,(HL)` (0x56, R203). -/
def execLdDMemHl (s : State) : Result := .next (loadRegMem .d s)

/-- `LD D,A` (0x57, R201). -/
def execLdDA (s : State) : Result := .next (loadRegReg .d .a s)

/-- `LD E,B` (0x58, R201). -/
def execLdEB (s : State) : Result := .next (loadRegReg .e .b s)

/-- `LD E,C` (0x59, R201). -/
def execLdEC (s : State) : Result := .next (loadRegReg .e .c s)

/-- `LD E,D` (0x5A, R201). -/
def execLdED (s : State) : Result := .next (loadRegReg .e .d s)

/-- `LD E,E` (0x5B, R201). -/
def execLdEE (s : State) : Result := .next (loadRegReg .e .e s)

/-- `LD E,H` (0x5C, R201). -/
def execLdEH (s : State) : Result := .next (loadRegReg .e .h s)

/-- `LD E,L` (0x5D, R201). -/
def execLdEL (s : State) : Result := .next (loadRegReg .e .l s)

/-- `LD E,(HL)` (0x5E, R203). -/
def execLdEMemHl (s : State) : Result := .next (loadRegMem .e s)

/-- `LD E,A` (0x5F, R201). -/
def execLdEA (s : State) : Result := .next (loadRegReg .e .a s)

/-- `LD H,B` (0x60, R201). -/
def execLdHB (s : State) : Result := .next (loadRegReg .h .b s)

/-- `LD H,C` (0x61, R201). -/
def execLdHC (s : State) : Result := .next (loadRegReg .h .c s)

/-- `LD H,D` (0x62, R201). -/
def execLdHD (s : State) : Result := .next (loadRegReg .h .d s)

/-- `LD H,E` (0x63, R201). -/
def execLdHE (s : State) : Result := .next (loadRegReg .h .e s)

/-- `LD H,H` (0x64, R201). -/
def execLdHH (s : State) : Result := .next (loadRegReg .h .h s)

/-- `LD H,L` (0x65, R201). -/
def execLdHL (s : State) : Result := .next (loadRegReg .h .l s)

/-- `LD H,(HL)` (0x66, R203). -/
def execLdHMemHl (s : State) : Result := .next (loadRegMem .h s)

/-- `LD H,A` (0x67, R201). -/
def execLdHA (s : State) : Result := .next (loadRegReg .h .a s)

/-- `LD L,B` (0x68, R201). -/
def execLdLB (s : State) : Result := .next (loadRegReg .l .b s)

/-- `LD L,C` (0x69, R201). -/
def execLdLC (s : State) : Result := .next (loadRegReg .l .c s)

/-- `LD L,D` (0x6A, R201). -/
def execLdLD (s : State) : Result := .next (loadRegReg .l .d s)

/-- `LD L,E` (0x6B, R201). -/
def execLdLE (s : State) : Result := .next (loadRegReg .l .e s)

/-- `LD L,H` (0x6C, R201). -/
def execLdLH (s : State) : Result := .next (loadRegReg .l .h s)

/-- `LD L,L` (0x6D, R201). -/
def execLdLL (s : State) : Result := .next (loadRegReg .l .l s)

/-- `LD L,(HL)` (0x6E, R203). -/
def execLdLMemHl (s : State) : Result := .next (loadRegMem .l s)

/-- `LD L,A` (0x6F, R201). -/
def execLdLA (s : State) : Result := .next (loadRegReg .l .a s)

/-- `LD (HL),B` (0x70, R204). -/
def execLdMemHlB (s : State) : Result := .next (storeMemReg .b s)

/-- `LD (HL),C` (0x71, R204). -/
def execLdMemHlC (s : State) : Result := .next (storeMemReg .c s)

/-- `LD (HL),D` (0x72, R204). -/
def execLdMemHlD (s : State) : Result := .next (storeMemReg .d s)

/-- `LD (HL),E` (0x73, R204). -/
def execLdMemHlE (s : State) : Result := .next (storeMemReg .e s)

/-- `LD (HL),H` (0x74, R204). -/
def execLdMemHlH (s : State) : Result := .next (storeMemReg .h s)

/-- `LD (HL),L` (0x75, R204). -/
def execLdMemHlL (s : State) : Result := .next (storeMemReg .l s)

/-- `LD (HL),A` (0x77, R204). -/
def execLdMemHlA (s : State) : Result := .next (storeMemReg .a s)

/-- `LD A,B` (0x78, R201). -/
def execLdAB (s : State) : Result := .next (loadRegReg .a .b s)

/-- `LD A,C` (0x79, R201). -/
def execLdAC (s : State) : Result := .next (loadRegReg .a .c s)

/-- `LD A,D` (0x7A, R201). -/
def execLdAD (s : State) : Result := .next (loadRegReg .a .d s)

/-- `LD A,E` (0x7B, R201). -/
def execLdAE (s : State) : Result := .next (loadRegReg .a .e s)

/-- `LD A,H` (0x7C, R201). -/
def execLdAH (s : State) : Result := .next (loadRegReg .a .h s)

/-- `LD A,L` (0x7D, R201). -/
def execLdAL (s : State) : Result := .next (loadRegReg .a .l s)

/-- `LD A,(HL)` (0x7E, R203). -/
def execLdAMemHl (s : State) : Result := .next (loadRegMem .a s)

/-- `LD A,A` (0x7F, R201). -/
def execLdAA (s : State) : Result := .next (loadRegReg .a .a s)

/-- `LDH (n),A` (0xE0, R215). -/
def execLdhMemNA (n : Byte) (s : State) : Result := .next (storeHighA n s)

/-- `LDH (C),A` (0xE2, R213). -/
def execLdhMemCA (s : State) : Result := .next (storeHighCA s)

/-- `LD (nn),A` (0xEA, R211). -/
def execLdMemNnA (nn : Word) (s : State) : Result := .next (storeAbsA nn s)

/-- `LDH A,(n)` (0xF0, R214). -/
def execLdhAMemN (n : Byte) (s : State) : Result := .next (loadAHigh n s)

/-- `LDH A,(C)` (0xF2, R212). -/
def execLdhAMemC (s : State) : Result := .next (loadAHighC s)

/-- `LD A,(nn)` (0xFA, R210). -/
def execLdAMemNn (nn : Word) (s : State) : Result := .next (loadAAbs nn s)

end Sys2Proof.Machine
end

