-- ==== Sys2Proof/Machine/Step.lean ====
section
/-! DEFINITION. One step of the model: from an instruction boundary one whole instruction, one whole interrupt dispatch, or
one idle cycle of a halted CORE; from the middle of a pipeline, the rest of that pipeline (log entry 1). The spec's own
`step()` is one machine cycle: `cycle` in Machine/Cycle.lean. -/

namespace Sys2Proof.Machine

/-- An instruction from its boundary: the meaning of the instruction fetched, then retire (R172, R181). -/
def runInstr (s : State) : Host.Outcome State Fault Refusal :=
  match exec s.fetchInstr s with
  | .next t => .next (t.retire (commitsEnable s.fetchInstr))
  | .fault r => .fault r
  | .refused r => .refused r

/-- One step: the boundary decision of R172 and R426, and what it starts, to the next boundary. -/
def step (s : State) : Host.Outcome State Fault Refusal :=
  match s.pipe with
  | some _ => cyclesToBoundary 6 s
  | none =>
    match s.boundary with
    | .idle => .next s
    | .dispatch k => .next (s.woken.takeInterrupt k)
    | .fetch => runInstr s.woken

/-- A program counter from which three bytes can be placed: `pc`, or 0 where one of the three would be KEY1 (log entry 22). -/
def placeable (pc : Word) : Word :=
  if pc = key1Addr || pc + 1#16 = key1Addr || pc + 2#16 = key1Addr then 0#16 else pc

/-- `s` with the three bytes of the word where the next step fetches, and nothing that would keep that step from the fetch:
no pipeline in flight, not halted, no halt bug, and no interrupt about to be dispatched (log entries 5, 21, 22). -/
def State.withFetchWord (s : State) (nbits w : Nat) : State :=
  let pc := placeable s.pc
  let m0 := memWrite s.mem pc.toNat (tableByte nbits w 0)
  let m1 := memWrite m0 (pc + 1#16).toNat (tableByte nbits w 1)
  let m2 := memWrite m1 (pc + 2#16).toNat (tableByte nbits w 2)
  let t : State := { s with pc := pc, mem := m2, pipe := none, scratch := [], haltActive := false, haltBug := false }
  { t with ime := s.ime && t.pend == 0#8 }

end Sys2Proof.Machine
end

