-- ==== Sys2Proof/Machine/Mnemonic.lean ====
section
/-! DEFINITION. The mnemonic of each row of spec/opcode_table.json, in the spellings of 30_encoding.md R107 (decision D7). Text
for the trace callback (41_sequencer.md R186): no rule and no meaning reads it. -/

namespace Sys2Proof.Machine

/-- The mnemonic of an instruction's row, its immediates by the letters `n`, `nn`, `e` (R107). -/
def mnemonic (i : Instr) : String :=
  match i with
  | .nop => "NOP"
  | .ldBcNn _ => "LD BC,nn"
  | .ldMemBcA => "LD (BC),A"
  | .incBc => "INC BC"
  | .incB => "INC B"
  | .decB => "DEC B"
  | .ldBN _ => "LD B,n"
  | .rlca => "RLCA"
  | .ldMemNnSp _ => "LD (nn),SP"
  | .addHlBc => "ADD HL,BC"
  | .ldAMemBc => "LD A,(BC)"
  | .decBc => "DEC BC"
  | .incC => "INC C"
  | .decC => "DEC C"
  | .ldCN _ => "LD C,n"
  | .rrca => "RRCA"
  | .stop => "STOP"
  | .ldDeNn _ => "LD DE,nn"
  | .ldMemDeA => "LD (DE),A"
  | .incDe => "INC DE"
  | .incD => "INC D"
  | .decD => "DEC D"
  | .ldDN _ => "LD D,n"
  | .rla => "RLA"
  | .jrE _ => "JR e"
  | .addHlDe => "ADD HL,DE"
  | .ldAMemDe => "LD A,(DE)"
  | .decDe => "DEC DE"
  | .incE => "INC E"
  | .decE => "DEC E"
  | .ldEN _ => "LD E,n"
  | .rra => "RRA"
  | .jrNzE _ => "JR NZ,e"
  | .ldHlNn _ => "LD HL,nn"
  | .ldMemHlIncA => "LD (HL+),A"
  | .incHl => "INC HL"
  | .incH => "INC H"
  | .decH => "DEC H"
  | .ldHN _ => "LD H,n"
  | .daa => "DAA"
  | .jrZE _ => "JR Z,e"
  | .addHlHl => "ADD HL,HL"
  | .ldAMemHlInc => "LD A,(HL+)"
  | .decHl => "DEC HL"
  | .incL => "INC L"
  | .decL => "DEC L"
  | .ldLN _ => "LD L,n"
  | .cpl => "CPL"
  | .jrNcE _ => "JR NC,e"
  | .ldSpNn _ => "LD SP,nn"
  | .ldMemHlDecA => "LD (HL-),A"
  | .incSp => "INC SP"
  | .incMemHl => "INC (HL)"
  | .decMemHl => "DEC (HL)"
  | .ldMemHlN _ => "LD (HL),n"
  | .scf => "SCF"
  | .jrCE _ => "JR C,e"
  | .addHlSp => "ADD HL,SP"
  | .ldAMemHlDec => "LD A,(HL-)"
  | .decSp => "DEC SP"
  | .incA => "INC A"
  | .decA => "DEC A"
  | .ldAN _ => "LD A,n"
  | .ccf => "CCF"
  | .ldBB => "LD B,B"
  | .ldBC => "LD B,C"
  | .ldBD => "LD B,D"
  | .ldBE => "LD B,E"
  | .ldBH => "LD B,H"
  | .ldBL => "LD B,L"
  | .ldBMemHl => "LD B,(HL)"
  | .ldBA => "LD B,A"
  | .ldCB => "LD C,B"
  | .ldCC => "LD C,C"
  | .ldCD => "LD C,D"
  | .ldCE => "LD C,E"
  | .ldCH => "LD C,H"
  | .ldCL => "LD C,L"
  | .ldCMemHl => "LD C,(HL)"
  | .ldCA => "LD C,A"
  | .ldDB => "LD D,B"
  | .ldDC => "LD D,C"
  | .ldDD => "LD D,D"
  | .ldDE => "LD D,E"
  | .ldDH => "LD D,H"
  | .ldDL => "LD D,L"
  | .ldDMemHl => "LD D,(HL)"
  | .ldDA => "LD D,A"
  | .ldEB => "LD E,B"
  | .ldEC => "LD E,C"
  | .ldED => "LD E,D"
  | .ldEE => "LD E,E"
  | .ldEH => "LD E,H"
  | .ldEL => "LD E,L"
  | .ldEMemHl => "LD E,(HL)"
  | .ldEA => "LD E,A"
  | .ldHB => "LD H,B"
  | .ldHC => "LD H,C"
  | .ldHD => "LD H,D"
  | .ldHE => "LD H,E"
  | .ldHH => "LD H,H"
  | .ldHL => "LD H,L"
  | .ldHMemHl => "LD H,(HL)"
  | .ldHA => "LD H,A"
  | .ldLB => "LD L,B"
  | .ldLC => "LD L,C"
  | .ldLD => "LD L,D"
  | .ldLE => "LD L,E"
  | .ldLH => "LD L,H"
  | .ldLL => "LD L,L"
  | .ldLMemHl => "LD L,(HL)"
  | .ldLA => "LD L,A"
  | .ldMemHlB => "LD (HL),B"
  | .ldMemHlC => "LD (HL),C"
  | .ldMemHlD => "LD (HL),D"
  | .ldMemHlE => "LD (HL),E"
  | .ldMemHlH => "LD (HL),H"
  | .ldMemHlL => "LD (HL),L"
  | .halt => "HALT"
  | .ldMemHlA => "LD (HL),A"
  | .ldAB => "LD A,B"
  | .ldAC => "LD A,C"
  | .ldAD => "LD A,D"
  | .ldAE => "LD A,E"
  | .ldAH => "LD A,H"
  | .ldAL => "LD A,L"
  | .ldAMemHl => "LD A,(HL)"
  | .ldAA => "LD A,A"
  | .addAB => "ADD A,B"
  | .addAC => "ADD A,C"
  | .addAD => "ADD A,D"
  | .addAE => "ADD A,E"
  | .addAH => "ADD A,H"
  | .addAL => "ADD A,L"
  | .addAMemHl => "ADD A,(HL)"
  | .addAA => "ADD A,A"
  | .adcAB => "ADC A,B"
  | .adcAC => "ADC A,C"
  | .adcAD => "ADC A,D"
  | .adcAE => "ADC A,E"
  | .adcAH => "ADC A,H"
  | .adcAL => "ADC A,L"
  | .adcAMemHl => "ADC A,(HL)"
  | .adcAA => "ADC A,A"
  | .subAB => "SUB A,B"
  | .subAC => "SUB A,C"
  | .subAD => "SUB A,D"
  | .subAE => "SUB A,E"
  | .subAH => "SUB A,H"
  | .subAL => "SUB A,L"
  | .subAMemHl => "SUB A,(HL)"
  | .subAA => "SUB A,A"
  | .sbcAB => "SBC A,B"
  | .sbcAC => "SBC A,C"
  | .sbcAD => "SBC A,D"
  | .sbcAE => "SBC A,E"
  | .sbcAH => "SBC A,H"
  | .sbcAL => "SBC A,L"
  | .sbcAMemHl => "SBC A,(HL)"
  | .sbcAA => "SBC A,A"
  | .andAB => "AND A,B"
  | .andAC => "AND A,C"
  | .andAD => "AND A,D"
  | .andAE => "AND A,E"
  | .andAH => "AND A,H"
  | .andAL => "AND A,L"
  | .andAMemHl => "AND A,(HL)"
  | .andAA => "AND A,A"
  | .xorAB => "XOR A,B"
  | .xorAC => "XOR A,C"
  | .xorAD => "XOR A,D"
  | .xorAE => "XOR A,E"
  | .xorAH => "XOR A,H"
  | .xorAL => "XOR A,L"
  | .xorAMemHl => "XOR A,(HL)"
  | .xorAA => "XOR A,A"
  | .orAB => "OR A,B"
  | .orAC => "OR A,C"
  | .orAD => "OR A,D"
  | .orAE => "OR A,E"
  | .orAH => "OR A,H"
  | .orAL => "OR A,L"
  | .orAMemHl => "OR A,(HL)"
  | .orAA => "OR A,A"
  | .cpAB => "CP A,B"
  | .cpAC => "CP A,C"
  | .cpAD => "CP A,D"
  | .cpAE => "CP A,E"
  | .cpAH => "CP A,H"
  | .cpAL => "CP A,L"
  | .cpAMemHl => "CP A,(HL)"
  | .cpAA => "CP A,A"
  | .retNz => "RET NZ"
  | .popBc => "POP BC"
  | .jpNzNn _ => "JP NZ,nn"
  | .jpNn _ => "JP nn"
  | .callNzNn _ => "CALL NZ,nn"
  | .pushBc => "PUSH BC"
  | .addAN _ => "ADD A,n"
  | .rst00 => "RST 0x00"
  | .retZ => "RET Z"
  | .ret => "RET"
  | .jpZNn _ => "JP Z,nn"
  | .prefixCb => "PREFIX CB"
  | .callZNn _ => "CALL Z,nn"
  | .callNn _ => "CALL nn"
  | .adcAN _ => "ADC A,n"
  | .rst08 => "RST 0x08"
  | .retNc => "RET NC"
  | .popDe => "POP DE"
  | .jpNcNn _ => "JP NC,nn"
  | .undefinedD3 => "(undefined 0xD3)"
  | .callNcNn _ => "CALL NC,nn"
  | .pushDe => "PUSH DE"
  | .subAN _ => "SUB A,n"
  | .rst10 => "RST 0x10"
  | .retC => "RET C"
  | .reti => "RETI"
  | .jpCNn _ => "JP C,nn"
  | .undefinedDB => "(undefined 0xDB)"
  | .callCNn _ => "CALL C,nn"
  | .undefinedDD => "(undefined 0xDD)"
  | .sbcAN _ => "SBC A,n"
  | .rst18 => "RST 0x18"
  | .ldhMemNA _ => "LDH (n),A"
  | .popHl => "POP HL"
  | .ldhMemCA => "LDH (C),A"
  | .undefinedE3 => "(undefined 0xE3)"
  | .undefinedE4 => "(undefined 0xE4)"
  | .pushHl => "PUSH HL"
  | .andAN _ => "AND A,n"
  | .rst20 => "RST 0x20"
  | .addSpE _ => "ADD SP,e"
  | .jpHl => "JP HL"
  | .ldMemNnA _ => "LD (nn),A"
  | .undefinedEB => "(undefined 0xEB)"
  | .undefinedEC => "(undefined 0xEC)"
  | .undefinedED => "(undefined 0xED)"
  | .xorAN _ => "XOR A,n"
  | .rst28 => "RST 0x28"
  | .ldhAMemN _ => "LDH A,(n)"
  | .popAf => "POP AF"
  | .ldhAMemC => "LDH A,(C)"
  | .di => "DI"
  | .undefinedF4 => "(undefined 0xF4)"
  | .pushAf => "PUSH AF"
  | .orAN _ => "OR A,n"
  | .rst30 => "RST 0x30"
  | .ldHlSpE _ => "LD HL,SP+e"
  | .ldSpHl => "LD SP,HL"
  | .ldAMemNn _ => "LD A,(nn)"
  | .ei => "EI"
  | .undefinedFC => "(undefined 0xFC)"
  | .undefinedFD => "(undefined 0xFD)"
  | .cpAN _ => "CP A,n"
  | .rst38 => "RST 0x38"
  | .rlcB => "RLC B"
  | .rlcC => "RLC C"
  | .rlcD => "RLC D"
  | .rlcE => "RLC E"
  | .rlcH => "RLC H"
  | .rlcL => "RLC L"
  | .rlcMemHl => "RLC (HL)"
  | .rlcA => "RLC A"
  | .rrcB => "RRC B"
  | .rrcC => "RRC C"
  | .rrcD => "RRC D"
  | .rrcE => "RRC E"
  | .rrcH => "RRC H"
  | .rrcL => "RRC L"
  | .rrcMemHl => "RRC (HL)"
  | .rrcA => "RRC A"
  | .rlB => "RL B"
  | .rlC => "RL C"
  | .rlD => "RL D"
  | .rlE => "RL E"
  | .rlH => "RL H"
  | .rlL => "RL L"
  | .rlMemHl => "RL (HL)"
  | .rlA => "RL A"
  | .rrB => "RR B"
  | .rrC => "RR C"
  | .rrD => "RR D"
  | .rrE => "RR E"
  | .rrH => "RR H"
  | .rrL => "RR L"
  | .rrMemHl => "RR (HL)"
  | .rrA => "RR A"
  | .slaB => "SLA B"
  | .slaC => "SLA C"
  | .slaD => "SLA D"
  | .slaE => "SLA E"
  | .slaH => "SLA H"
  | .slaL => "SLA L"
  | .slaMemHl => "SLA (HL)"
  | .slaA => "SLA A"
  | .sraB => "SRA B"
  | .sraC => "SRA C"
  | .sraD => "SRA D"
  | .sraE => "SRA E"
  | .sraH => "SRA H"
  | .sraL => "SRA L"
  | .sraMemHl => "SRA (HL)"
  | .sraA => "SRA A"
  | .swapB => "SWAP B"
  | .swapC => "SWAP C"
  | .swapD => "SWAP D"
  | .swapE => "SWAP E"
  | .swapH => "SWAP H"
  | .swapL => "SWAP L"
  | .swapMemHl => "SWAP (HL)"
  | .swapA => "SWAP A"
  | .srlB => "SRL B"
  | .srlC => "SRL C"
  | .srlD => "SRL D"
  | .srlE => "SRL E"
  | .srlH => "SRL H"
  | .srlL => "SRL L"
  | .srlMemHl => "SRL (HL)"
  | .srlA => "SRL A"
  | .bit0B => "BIT 0,B"
  | .bit0C => "BIT 0,C"
  | .bit0D => "BIT 0,D"
  | .bit0E => "BIT 0,E"
  | .bit0H => "BIT 0,H"
  | .bit0L => "BIT 0,L"
  | .bit0MemHl => "BIT 0,(HL)"
  | .bit0A => "BIT 0,A"
  | .bit1B => "BIT 1,B"
  | .bit1C => "BIT 1,C"
  | .bit1D => "BIT 1,D"
  | .bit1E => "BIT 1,E"
  | .bit1H => "BIT 1,H"
  | .bit1L => "BIT 1,L"
  | .bit1MemHl => "BIT 1,(HL)"
  | .bit1A => "BIT 1,A"
  | .bit2B => "BIT 2,B"
  | .bit2C => "BIT 2,C"
  | .bit2D => "BIT 2,D"
  | .bit2E => "BIT 2,E"
  | .bit2H => "BIT 2,H"
  | .bit2L => "BIT 2,L"
  | .bit2MemHl => "BIT 2,(HL)"
  | .bit2A => "BIT 2,A"
  | .bit3B => "BIT 3,B"
  | .bit3C => "BIT 3,C"
  | .bit3D => "BIT 3,D"
  | .bit3E => "BIT 3,E"
  | .bit3H => "BIT 3,H"
  | .bit3L => "BIT 3,L"
  | .bit3MemHl => "BIT 3,(HL)"
  | .bit3A => "BIT 3,A"
  | .bit4B => "BIT 4,B"
  | .bit4C => "BIT 4,C"
  | .bit4D => "BIT 4,D"
  | .bit4E => "BIT 4,E"
  | .bit4H => "BIT 4,H"
  | .bit4L => "BIT 4,L"
  | .bit4MemHl => "BIT 4,(HL)"
  | .bit4A => "BIT 4,A"
  | .bit5B => "BIT 5,B"
  | .bit5C => "BIT 5,C"
  | .bit5D => "BIT 5,D"
  | .bit5E => "BIT 5,E"
  | .bit5H => "BIT 5,H"
  | .bit5L => "BIT 5,L"
  | .bit5MemHl => "BIT 5,(HL)"
  | .bit5A => "BIT 5,A"
  | .bit6B => "BIT 6,B"
  | .bit6C => "BIT 6,C"
  | .bit6D => "BIT 6,D"
  | .bit6E => "BIT 6,E"
  | .bit6H => "BIT 6,H"
  | .bit6L => "BIT 6,L"
  | .bit6MemHl => "BIT 6,(HL)"
  | .bit6A => "BIT 6,A"
  | .bit7B => "BIT 7,B"
  | .bit7C => "BIT 7,C"
  | .bit7D => "BIT 7,D"
  | .bit7E => "BIT 7,E"
  | .bit7H => "BIT 7,H"
  | .bit7L => "BIT 7,L"
  | .bit7MemHl => "BIT 7,(HL)"
  | .bit7A => "BIT 7,A"
  | .res0B => "RES 0,B"
  | .res0C => "RES 0,C"
  | .res0D => "RES 0,D"
  | .res0E => "RES 0,E"
  | .res0H => "RES 0,H"
  | .res0L => "RES 0,L"
  | .res0MemHl => "RES 0,(HL)"
  | .res0A => "RES 0,A"
  | .res1B => "RES 1,B"
  | .res1C => "RES 1,C"
  | .res1D => "RES 1,D"
  | .res1E => "RES 1,E"
  | .res1H => "RES 1,H"
  | .res1L => "RES 1,L"
  | .res1MemHl => "RES 1,(HL)"
  | .res1A => "RES 1,A"
  | .res2B => "RES 2,B"
  | .res2C => "RES 2,C"
  | .res2D => "RES 2,D"
  | .res2E => "RES 2,E"
  | .res2H => "RES 2,H"
  | .res2L => "RES 2,L"
  | .res2MemHl => "RES 2,(HL)"
  | .res2A => "RES 2,A"
  | .res3B => "RES 3,B"
  | .res3C => "RES 3,C"
  | .res3D => "RES 3,D"
  | .res3E => "RES 3,E"
  | .res3H => "RES 3,H"
  | .res3L => "RES 3,L"
  | .res3MemHl => "RES 3,(HL)"
  | .res3A => "RES 3,A"
  | .res4B => "RES 4,B"
  | .res4C => "RES 4,C"
  | .res4D => "RES 4,D"
  | .res4E => "RES 4,E"
  | .res4H => "RES 4,H"
  | .res4L => "RES 4,L"
  | .res4MemHl => "RES 4,(HL)"
  | .res4A => "RES 4,A"
  | .res5B => "RES 5,B"
  | .res5C => "RES 5,C"
  | .res5D => "RES 5,D"
  | .res5E => "RES 5,E"
  | .res5H => "RES 5,H"
  | .res5L => "RES 5,L"
  | .res5MemHl => "RES 5,(HL)"
  | .res5A => "RES 5,A"
  | .res6B => "RES 6,B"
  | .res6C => "RES 6,C"
  | .res6D => "RES 6,D"
  | .res6E => "RES 6,E"
  | .res6H => "RES 6,H"
  | .res6L => "RES 6,L"
  | .res6MemHl => "RES 6,(HL)"
  | .res6A => "RES 6,A"
  | .res7B => "RES 7,B"
  | .res7C => "RES 7,C"
  | .res7D => "RES 7,D"
  | .res7E => "RES 7,E"
  | .res7H => "RES 7,H"
  | .res7L => "RES 7,L"
  | .res7MemHl => "RES 7,(HL)"
  | .res7A => "RES 7,A"
  | .set0B => "SET 0,B"
  | .set0C => "SET 0,C"
  | .set0D => "SET 0,D"
  | .set0E => "SET 0,E"
  | .set0H => "SET 0,H"
  | .set0L => "SET 0,L"
  | .set0MemHl => "SET 0,(HL)"
  | .set0A => "SET 0,A"
  | .set1B => "SET 1,B"
  | .set1C => "SET 1,C"
  | .set1D => "SET 1,D"
  | .set1E => "SET 1,E"
  | .set1H => "SET 1,H"
  | .set1L => "SET 1,L"
  | .set1MemHl => "SET 1,(HL)"
  | .set1A => "SET 1,A"
  | .set2B => "SET 2,B"
  | .set2C => "SET 2,C"
  | .set2D => "SET 2,D"
  | .set2E => "SET 2,E"
  | .set2H => "SET 2,H"
  | .set2L => "SET 2,L"
  | .set2MemHl => "SET 2,(HL)"
  | .set2A => "SET 2,A"
  | .set3B => "SET 3,B"
  | .set3C => "SET 3,C"
  | .set3D => "SET 3,D"
  | .set3E => "SET 3,E"
  | .set3H => "SET 3,H"
  | .set3L => "SET 3,L"
  | .set3MemHl => "SET 3,(HL)"
  | .set3A => "SET 3,A"
  | .set4B => "SET 4,B"
  | .set4C => "SET 4,C"
  | .set4D => "SET 4,D"
  | .set4E => "SET 4,E"
  | .set4H => "SET 4,H"
  | .set4L => "SET 4,L"
  | .set4MemHl => "SET 4,(HL)"
  | .set4A => "SET 4,A"
  | .set5B => "SET 5,B"
  | .set5C => "SET 5,C"
  | .set5D => "SET 5,D"
  | .set5E => "SET 5,E"
  | .set5H => "SET 5,H"
  | .set5L => "SET 5,L"
  | .set5MemHl => "SET 5,(HL)"
  | .set5A => "SET 5,A"
  | .set6B => "SET 6,B"
  | .set6C => "SET 6,C"
  | .set6D => "SET 6,D"
  | .set6E => "SET 6,E"
  | .set6H => "SET 6,H"
  | .set6L => "SET 6,L"
  | .set6MemHl => "SET 6,(HL)"
  | .set6A => "SET 6,A"
  | .set7B => "SET 7,B"
  | .set7C => "SET 7,C"
  | .set7D => "SET 7,D"
  | .set7E => "SET 7,E"
  | .set7H => "SET 7,H"
  | .set7L => "SET 7,L"
  | .set7MemHl => "SET 7,(HL)"
  | .set7A => "SET 7,A"

end Sys2Proof.Machine
end

