-- ==== Sys2Proof/Machine/HostPort.lean ====
section
/-! DEFINITION. What the outside world can do to the machine: the host's calls (70_reset_and_hazards.md R451, R452), the trace
callback (41_sequencer.md R186), the KEY1 port (60_exceptions.md R419), and the moves of the environment between two machine
cycles (20_memory.md R77, 60_exceptions.md R405). None of them is a step of the CORE. -/

namespace Sys2Proof.Machine

/-- The ten architectural registers, in the order of R451 and R452. -/
structure Registers where
  a : Byte
  f : Byte
  b : Byte
  c : Byte
  d : Byte
  e : Byte
  h : Byte
  l : Byte
  sp : Word
  pc : Word
deriving DecidableEq, Repr

/-- `getRegisters()` (R452): pure. -/
def State.getRegisters (s : State) : Registers where
  a := s.a
  f := s.f
  b := s.b
  c := s.c
  d := s.d
  e := s.e
  h := s.h
  l := s.l
  sp := s.sp
  pc := s.pc

/-- `setRegisters(…)` (R451): `F <- f & 0xF0`. "It may be called only at an instruction boundary": elsewhere the call has no
result (log entry 19). -/
def State.setRegisters (s : State) (r : Registers) : Option State :=
  match s.pipe with
  | some _ => none
  | none =>
    some { s with
      a := r.a
      f := r.f &&& 0xF0#8
      b := r.b
      c := r.c
      d := r.d
      e := r.e
      h := r.h
      l := r.l
      sp := r.sp
      pc := r.pc }

/-- The mnemonic that the trace callback receives for the instruction about to be fetched (R174, R186). For a CB-prefixed
instruction the spec does not state whether that is the prefix's mnemonic or the full one (91_not_in_source.md N15): a free
value chooses, and the full one is that of the second byte as memory holds it at the call.
DESIGN CHOICE (log entry 15). -/
def State.traceText (s : State) : String :=
  if s.read s.pc = 0xCB#8 ∧ Config.traceGivesFullCb = false then mnemonic .prefixCb else mnemonic s.fetchInstr

/-- What the trace callback receives in the next machine cycle: one mnemonic at each opcode fetch, nothing in an idle cycle, in a
dispatch or in a later row (R186, decision D9, log entry 15). -/
def State.traceEvent (s : State) : Option String :=
  match s.pipe with
  | some _ => none
  | none =>
    match s.boundary with
    | .idle => none
    | .dispatch _ => none
    | .fetch => some s.traceText

/-- The host's data after the trace callback of the next machine cycle; an absent callback leaves it as it is (R186). -/
def State.traced {α : Type} (s : State) (host : α) (callback : TraceCallback α) : α :=
  match callback, s.traceEvent with
  | some call, some text => call text host
  | _, _ => host

/-- One machine cycle with the parameter `TraceCallback` (R7), "absent by default": the callback runs before any effect of the
instruction (R174, decision D9) and acts on the host's data alone. -/
def tracedCycle {α : Type} (s : State) (host : α) (callback : TraceCallback α := none) :
    Host.Outcome (α × State) Fault Refusal :=
  match cycle s with
  | .next t => .next (s.traced host callback, t)
  | .fault r => .fault r
  | .refused r => .refused r

/-- `Key1Read()` (R419): `none` on base hardware, where the register does not exist. -/
def State.key1Read (s : State) : Option Byte := s.key1.map Key1.read

/-- `Key1Write(v)` (R419). -/
def State.key1Write (s : State) (v : Byte) : State := { s with key1 := s.key1.map (·.write v) }

/-- A move of the environment between two machine cycles (R77). -/
inductive EnvMove where
  /-- `requestInterrupt(bit)` (R405). -/
  | requestInterrupt (k : IrqSource)
  /-- The value an address returns changes; ignoring or transforming an earlier write is such a change. -/
  | setByte (addr : Word) (v : Byte)
deriving DecidableEq, Repr

/-- `IF <- IF | (1 << bit)` (R405). -/
def State.requestInterrupt (s : State) (k : IrqSource) : State :=
  { s with mem := memWrite s.mem ifAddr.toNat (s.ifv ||| 1#8 <<< k.bit) }

/-- The effect of a move: the bytes behind the bus change, and no state of the CORE (R77). -/
def EnvMove.apply (m : EnvMove) (s : State) : State :=
  match m with
  | .requestInterrupt k => s.requestInterrupt k
  | .setByte addr v => { s with mem := memWrite s.mem addr.toNat v }

/-- The moves made before one machine cycle, in order. -/
def applyMoves (ms : List EnvMove) (s : State) : State :=
  match ms with
  | [] => s
  | m :: rest => applyMoves rest (m.apply s)

/-- The whole system (R11, R77): one machine cycle for each list of moves, the moves first. -/
def systemRun (schedule : List (List EnvMove)) (s : State) : Host.Outcome State Fault Refusal :=
  match schedule with
  | [] => .next s
  | ms :: rest =>
    match cycle (applyMoves ms s) with
    | .next t => systemRun rest t
    | .fault r => .fault r
    | .refused r => .refused r

end Sys2Proof.Machine
end

