-- ==== Sys2Proof/Machine/Timing.lean ====
section
/-! DEFINITION. The instruction-timing table of 70_reset_and_hazards.md R463, from the `cycles` field of each row of
spec/opcode_table.json: the number of machine cycles, not taken and taken, from the boundary call to the retiring call.
Timing only: `exec` does not read it. -/

namespace Sys2Proof.Machine

/-- M-cycles `(not taken, taken)`; `none` for the bare prefix, to which the table gives no count of its own. -/
def mCycles (i : Instr) : Option (Nat × Nat) :=
  match i with
  | .nop => some (1, 1)
  | .ldBcNn _ => some (3, 3)
  | .ldMemBcA => some (2, 2)
  | .incBc => some (2, 2)
  | .incB => some (1, 1)
  | .decB => some (1, 1)
  | .ldBN _ => some (2, 2)
  | .rlca => some (1, 1)
  | .ldMemNnSp _ => some (5, 5)
  | .addHlBc => some (2, 2)
  | .ldAMemBc => some (2, 2)
  | .decBc => some (2, 2)
  | .incC => some (1, 1)
  | .decC => some (1, 1)
  | .ldCN _ => some (2, 2)
  | .rrca => some (1, 1)
  | .stop => some (1, 1)
  | .ldDeNn _ => some (3, 3)
  | .ldMemDeA => some (2, 2)
  | .incDe => some (2, 2)
  | .incD => some (1, 1)
  | .decD => some (1, 1)
  | .ldDN _ => some (2, 2)
  | .rla => some (1, 1)
  | .jrE _ => some (3, 3)
  | .addHlDe => some (2, 2)
  | .ldAMemDe => some (2, 2)
  | .decDe => some (2, 2)
  | .incE => some (1, 1)
  | .decE => some (1, 1)
  | .ldEN _ => some (2, 2)
  | .rra => some (1, 1)
  | .jrNzE _ => some (2, 3)
  | .ldHlNn _ => some (3, 3)
  | .ldMemHlIncA => some (2, 2)
  | .incHl => some (2, 2)
  | .incH => some (1, 1)
  | .decH => some (1, 1)
  | .ldHN _ => some (2, 2)
  | .daa => some (1, 1)
  | .jrZE _ => some (2, 3)
  | .addHlHl => some (2, 2)
  | .ldAMemHlInc => some (2, 2)
  | .decHl => some (2, 2)
  | .incL => some (1, 1)
  | .decL => some (1, 1)
  | .ldLN _ => some (2, 2)
  | .cpl => some (1, 1)
  | .jrNcE _ => some (2, 3)
  | .ldSpNn _ => some (3, 3)
  | .ldMemHlDecA => some (2, 2)
  | .incSp => some (2, 2)
  | .incMemHl => some (3, 3)
  | .decMemHl => some (3, 3)
  | .ldMemHlN _ => some (3, 3)
  | .scf => some (1, 1)
  | .jrCE _ => some (2, 3)
  | .addHlSp => some (2, 2)
  | .ldAMemHlDec => some (2, 2)
  | .decSp => some (2, 2)
  | .incA => some (1, 1)
  | .decA => some (1, 1)
  | .ldAN _ => some (2, 2)
  | .ccf => some (1, 1)
  | .ldBB => some (1, 1)
  | .ldBC => some (1, 1)
  | .ldBD => some (1, 1)
  | .ldBE => some (1, 1)
  | .ldBH => some (1, 1)
  | .ldBL => some (1, 1)
  | .ldBMemHl => some (2, 2)
  | .ldBA => some (1, 1)
  | .ldCB => some (1, 1)
  | .ldCC => some (1, 1)
  | .ldCD => some (1, 1)
  | .ldCE => some (1, 1)
  | .ldCH => some (1, 1)
  | .ldCL => some (1, 1)
  | .ldCMemHl => some (2, 2)
  | .ldCA => some (1, 1)
  | .ldDB => some (1, 1)
  | .ldDC => some (1, 1)
  | .ldDD => some (1, 1)
  | .ldDE => some (1, 1)
  | .ldDH => some (1, 1)
  | .ldDL => some (1, 1)
  | .ldDMemHl => some (2, 2)
  | .ldDA => some (1, 1)
  | .ldEB => some (1, 1)
  | .ldEC => some (1, 1)
  | .ldED => some (1, 1)
  | .ldEE => some (1, 1)
  | .ldEH => some (1, 1)
  | .ldEL => some (1, 1)
  | .ldEMemHl => some (2, 2)
  | .ldEA => some (1, 1)
  | .ldHB => some (1, 1)
  | .ldHC => some (1, 1)
  | .ldHD => some (1, 1)
  | .ldHE => some (1, 1)
  | .ldHH => some (1, 1)
  | .ldHL => some (1, 1)
  | .ldHMemHl => some (2, 2)
  | .ldHA => some (1, 1)
  | .ldLB => some (1, 1)
  | .ldLC => some (1, 1)
  | .ldLD => some (1, 1)
  | .ldLE => some (1, 1)
  | .ldLH => some (1, 1)
  | .ldLL => some (1, 1)
  | .ldLMemHl => some (2, 2)
  | .ldLA => some (1, 1)
  | .ldMemHlB => some (2, 2)
  | .ldMemHlC => some (2, 2)
  | .ldMemHlD => some (2, 2)
  | .ldMemHlE => some (2, 2)
  | .ldMemHlH => some (2, 2)
  | .ldMemHlL => some (2, 2)
  | .halt => some (1, 1)
  | .ldMemHlA => some (2, 2)
  | .ldAB => some (1, 1)
  | .ldAC => some (1, 1)
  | .ldAD => some (1, 1)
  | .ldAE => some (1, 1)
  | .ldAH => some (1, 1)
  | .ldAL => some (1, 1)
  | .ldAMemHl => some (2, 2)
  | .ldAA => some (1, 1)
  | .addAB => some (1, 1)
  | .addAC => some (1, 1)
  | .addAD => some (1, 1)
  | .addAE => some (1, 1)
  | .addAH => some (1, 1)
  | .addAL => some (1, 1)
  | .addAMemHl => some (2, 2)
  | .addAA => some (1, 1)
  | .adcAB => some (1, 1)
  | .adcAC => some (1, 1)
  | .adcAD => some (1, 1)
  | .adcAE => some (1, 1)
  | .adcAH => some (1, 1)
  | .adcAL => some (1, 1)
  | .adcAMemHl => some (2, 2)
  | .adcAA => some (1, 1)
  | .subAB => some (1, 1)
  | .subAC => some (1, 1)
  | .subAD => some (1, 1)
  | .subAE => some (1, 1)
  | .subAH => some (1, 1)
  | .subAL => some (1, 1)
  | .subAMemHl => some (2, 2)
  | .subAA => some (1, 1)
  | .sbcAB => some (1, 1)
  | .sbcAC => some (1, 1)
  | .sbcAD => some (1, 1)
  | .sbcAE => some (1, 1)
  | .sbcAH => some (1, 1)
  | .sbcAL => some (1, 1)
  | .sbcAMemHl => some (2, 2)
  | .sbcAA => some (1, 1)
  | .andAB => some (1, 1)
  | .andAC => some (1, 1)
  | .andAD => some (1, 1)
  | .andAE => some (1, 1)
  | .andAH => some (1, 1)
  | .andAL => some (1, 1)
  | .andAMemHl => some (2, 2)
  | .andAA => some (1, 1)
  | .xorAB => some (1, 1)
  | .xorAC => some (1, 1)
  | .xorAD => some (1, 1)
  | .xorAE => some (1, 1)
  | .xorAH => some (1, 1)
  | .xorAL => some (1, 1)
  | .xorAMemHl => some (2, 2)
  | .xorAA => some (1, 1)
  | .orAB => some (1, 1)
  | .orAC => some (1, 1)
  | .orAD => some (1, 1)
  | .orAE => some (1, 1)
  | .orAH => some (1, 1)
  | .orAL => some (1, 1)
  | .orAMemHl => some (2, 2)
  | .orAA => some (1, 1)
  | .cpAB => some (1, 1)
  | .cpAC => some (1, 1)
  | .cpAD => some (1, 1)
  | .cpAE => some (1, 1)
  | .cpAH => some (1, 1)
  | .cpAL => some (1, 1)
  | .cpAMemHl => some (2, 2)
  | .cpAA => some (1, 1)
  | .retNz => some (2, 5)
  | .popBc => some (3, 3)
  | .jpNzNn _ => some (3, 4)
  | .jpNn _ => some (4, 4)
  | .callNzNn _ => some (3, 6)
  | .pushBc => some (4, 4)
  | .addAN _ => some (2, 2)
  | .rst00 => some (4, 4)
  | .retZ => some (2, 5)
  | .ret => some (4, 4)
  | .jpZNn _ => some (3, 4)
  | .prefixCb => none
  | .callZNn _ => some (3, 6)
  | .callNn _ => some (6, 6)
  | .adcAN _ => some (2, 2)
  | .rst08 => some (4, 4)
  | .retNc => some (2, 5)
  | .popDe => some (3, 3)
  | .jpNcNn _ => some (3, 4)
  | .undefinedD3 => some (1, 1)
  | .callNcNn _ => some (3, 6)
  | .pushDe => some (4, 4)
  | .subAN _ => some (2, 2)
  | .rst10 => some (4, 4)
  | .retC => some (2, 5)
  | .reti => some (4, 4)
  | .jpCNn _ => some (3, 4)
  | .undefinedDB => some (1, 1)
  | .callCNn _ => some (3, 6)
  | .undefinedDD => some (1, 1)
  | .sbcAN _ => some (2, 2)
  | .rst18 => some (4, 4)
  | .ldhMemNA _ => some (3, 3)
  | .popHl => some (3, 3)
  | .ldhMemCA => some (2, 2)
  | .undefinedE3 => some (1, 1)
  | .undefinedE4 => some (1, 1)
  | .pushHl => some (4, 4)
  | .andAN _ => some (2, 2)
  | .rst20 => some (4, 4)
  | .addSpE _ => some (4, 4)
  | .jpHl => some (1, 1)
  | .ldMemNnA _ => some (4, 4)
  | .undefinedEB => some (1, 1)
  | .undefinedEC => some (1, 1)
  | .undefinedED => some (1, 1)
  | .xorAN _ => some (2, 2)
  | .rst28 => some (4, 4)
  | .ldhAMemN _ => some (3, 3)
  | .popAf => some (3, 3)
  | .ldhAMemC => some (2, 2)
  | .di => some (1, 1)
  | .undefinedF4 => some (1, 1)
  | .pushAf => some (4, 4)
  | .orAN _ => some (2, 2)
  | .rst30 => some (4, 4)
  | .ldHlSpE _ => some (3, 3)
  | .ldSpHl => some (2, 2)
  | .ldAMemNn _ => some (4, 4)
  | .ei => some (1, 1)
  | .undefinedFC => some (1, 1)
  | .undefinedFD => some (1, 1)
  | .cpAN _ => some (2, 2)
  | .rst38 => some (4, 4)
  | .rlcB => some (2, 2)
  | .rlcC => some (2, 2)
  | .rlcD => some (2, 2)
  | .rlcE => some (2, 2)
  | .rlcH => some (2, 2)
  | .rlcL => some (2, 2)
  | .rlcMemHl => some (4, 4)
  | .rlcA => some (2, 2)
  | .rrcB => some (2, 2)
  | .rrcC => some (2, 2)
  | .rrcD => some (2, 2)
  | .rrcE => some (2, 2)
  | .rrcH => some (2, 2)
  | .rrcL => some (2, 2)
  | .rrcMemHl => some (4, 4)
  | .rrcA => some (2, 2)
  | .rlB => some (2, 2)
  | .rlC => some (2, 2)
  | .rlD => some (2, 2)
  | .rlE => some (2, 2)
  | .rlH => some (2, 2)
  | .rlL => some (2, 2)
  | .rlMemHl => some (4, 4)
  | .rlA => some (2, 2)
  | .rrB => some (2, 2)
  | .rrC => some (2, 2)
  | .rrD => some (2, 2)
  | .rrE => some (2, 2)
  | .rrH => some (2, 2)
  | .rrL => some (2, 2)
  | .rrMemHl => some (4, 4)
  | .rrA => some (2, 2)
  | .slaB => some (2, 2)
  | .slaC => some (2, 2)
  | .slaD => some (2, 2)
  | .slaE => some (2, 2)
  | .slaH => some (2, 2)
  | .slaL => some (2, 2)
  | .slaMemHl => some (4, 4)
  | .slaA => some (2, 2)
  | .sraB => some (2, 2)
  | .sraC => some (2, 2)
  | .sraD => some (2, 2)
  | .sraE => some (2, 2)
  | .sraH => some (2, 2)
  | .sraL => some (2, 2)
  | .sraMemHl => some (4, 4)
  | .sraA => some (2, 2)
  | .swapB => some (2, 2)
  | .swapC => some (2, 2)
  | .swapD => some (2, 2)
  | .swapE => some (2, 2)
  | .swapH => some (2, 2)
  | .swapL => some (2, 2)
  | .swapMemHl => some (4, 4)
  | .swapA => some (2, 2)
  | .srlB => some (2, 2)
  | .srlC => some (2, 2)
  | .srlD => some (2, 2)
  | .srlE => some (2, 2)
  | .srlH => some (2, 2)
  | .srlL => some (2, 2)
  | .srlMemHl => some (4, 4)
  | .srlA => some (2, 2)
  | .bit0B => some (2, 2)
  | .bit0C => some (2, 2)
  | .bit0D => some (2, 2)
  | .bit0E => some (2, 2)
  | .bit0H => some (2, 2)
  | .bit0L => some (2, 2)
  | .bit0MemHl => some (3, 3)
  | .bit0A => some (2, 2)
  | .bit1B => some (2, 2)
  | .bit1C => some (2, 2)
  | .bit1D => some (2, 2)
  | .bit1E => some (2, 2)
  | .bit1H => some (2, 2)
  | .bit1L => some (2, 2)
  | .bit1MemHl => some (3, 3)
  | .bit1A => some (2, 2)
  | .bit2B => some (2, 2)
  | .bit2C => some (2, 2)
  | .bit2D => some (2, 2)
  | .bit2E => some (2, 2)
  | .bit2H => some (2, 2)
  | .bit2L => some (2, 2)
  | .bit2MemHl => some (3, 3)
  | .bit2A => some (2, 2)
  | .bit3B => some (2, 2)
  | .bit3C => some (2, 2)
  | .bit3D => some (2, 2)
  | .bit3E => some (2, 2)
  | .bit3H => some (2, 2)
  | .bit3L => some (2, 2)
  | .bit3MemHl => some (3, 3)
  | .bit3A => some (2, 2)
  | .bit4B => some (2, 2)
  | .bit4C => some (2, 2)
  | .bit4D => some (2, 2)
  | .bit4E => some (2, 2)
  | .bit4H => some (2, 2)
  | .bit4L => some (2, 2)
  | .bit4MemHl => some (3, 3)
  | .bit4A => some (2, 2)
  | .bit5B => some (2, 2)
  | .bit5C => some (2, 2)
  | .bit5D => some (2, 2)
  | .bit5E => some (2, 2)
  | .bit5H => some (2, 2)
  | .bit5L => some (2, 2)
  | .bit5MemHl => some (3, 3)
  | .bit5A => some (2, 2)
  | .bit6B => some (2, 2)
  | .bit6C => some (2, 2)
  | .bit6D => some (2, 2)
  | .bit6E => some (2, 2)
  | .bit6H => some (2, 2)
  | .bit6L => some (2, 2)
  | .bit6MemHl => some (3, 3)
  | .bit6A => some (2, 2)
  | .bit7B => some (2, 2)
  | .bit7C => some (2, 2)
  | .bit7D => some (2, 2)
  | .bit7E => some (2, 2)
  | .bit7H => some (2, 2)
  | .bit7L => some (2, 2)
  | .bit7MemHl => some (3, 3)
  | .bit7A => some (2, 2)
  | .res0B => some (2, 2)
  | .res0C => some (2, 2)
  | .res0D => some (2, 2)
  | .res0E => some (2, 2)
  | .res0H => some (2, 2)
  | .res0L => some (2, 2)
  | .res0MemHl => some (4, 4)
  | .res0A => some (2, 2)
  | .res1B => some (2, 2)
  | .res1C => some (2, 2)
  | .res1D => some (2, 2)
  | .res1E => some (2, 2)
  | .res1H => some (2, 2)
  | .res1L => some (2, 2)
  | .res1MemHl => some (4, 4)
  | .res1A => some (2, 2)
  | .res2B => some (2, 2)
  | .res2C => some (2, 2)
  | .res2D => some (2, 2)
  | .res2E => some (2, 2)
  | .res2H => some (2, 2)
  | .res2L => some (2, 2)
  | .res2MemHl => some (4, 4)
  | .res2A => some (2, 2)
  | .res3B => some (2, 2)
  | .res3C => some (2, 2)
  | .res3D => some (2, 2)
  | .res3E => some (2, 2)
  | .res3H => some (2, 2)
  | .res3L => some (2, 2)
  | .res3MemHl => some (4, 4)
  | .res3A => some (2, 2)
  | .res4B => some (2, 2)
  | .res4C => some (2, 2)
  | .res4D => some (2, 2)
  | .res4E => some (2, 2)
  | .res4H => some (2, 2)
  | .res4L => some (2, 2)
  | .res4MemHl => some (4, 4)
  | .res4A => some (2, 2)
  | .res5B => some (2, 2)
  | .res5C => some (2, 2)
  | .res5D => some (2, 2)
  | .res5E => some (2, 2)
  | .res5H => some (2, 2)
  | .res5L => some (2, 2)
  | .res5MemHl => some (4, 4)
  | .res5A => some (2, 2)
  | .res6B => some (2, 2)
  | .res6C => some (2, 2)
  | .res6D => some (2, 2)
  | .res6E => some (2, 2)
  | .res6H => some (2, 2)
  | .res6L => some (2, 2)
  | .res6MemHl => some (4, 4)
  | .res6A => some (2, 2)
  | .res7B => some (2, 2)
  | .res7C => some (2, 2)
  | .res7D => some (2, 2)
  | .res7E => some (2, 2)
  | .res7H => some (2, 2)
  | .res7L => some (2, 2)
  | .res7MemHl => some (4, 4)
  | .res7A => some (2, 2)
  | .set0B => some (2, 2)
  | .set0C => some (2, 2)
  | .set0D => some (2, 2)
  | .set0E => some (2, 2)
  | .set0H => some (2, 2)
  | .set0L => some (2, 2)
  | .set0MemHl => some (4, 4)
  | .set0A => some (2, 2)
  | .set1B => some (2, 2)
  | .set1C => some (2, 2)
  | .set1D => some (2, 2)
  | .set1E => some (2, 2)
  | .set1H => some (2, 2)
  | .set1L => some (2, 2)
  | .set1MemHl => some (4, 4)
  | .set1A => some (2, 2)
  | .set2B => some (2, 2)
  | .set2C => some (2, 2)
  | .set2D => some (2, 2)
  | .set2E => some (2, 2)
  | .set2H => some (2, 2)
  | .set2L => some (2, 2)
  | .set2MemHl => some (4, 4)
  | .set2A => some (2, 2)
  | .set3B => some (2, 2)
  | .set3C => some (2, 2)
  | .set3D => some (2, 2)
  | .set3E => some (2, 2)
  | .set3H => some (2, 2)
  | .set3L => some (2, 2)
  | .set3MemHl => some (4, 4)
  | .set3A => some (2, 2)
  | .set4B => some (2, 2)
  | .set4C => some (2, 2)
  | .set4D => some (2, 2)
  | .set4E => some (2, 2)
  | .set4H => some (2, 2)
  | .set4L => some (2, 2)
  | .set4MemHl => some (4, 4)
  | .set4A => some (2, 2)
  | .set5B => some (2, 2)
  | .set5C => some (2, 2)
  | .set5D => some (2, 2)
  | .set5E => some (2, 2)
  | .set5H => some (2, 2)
  | .set5L => some (2, 2)
  | .set5MemHl => some (4, 4)
  | .set5A => some (2, 2)
  | .set6B => some (2, 2)
  | .set6C => some (2, 2)
  | .set6D => some (2, 2)
  | .set6E => some (2, 2)
  | .set6H => some (2, 2)
  | .set6L => some (2, 2)
  | .set6MemHl => some (4, 4)
  | .set6A => some (2, 2)
  | .set7B => some (2, 2)
  | .set7C => some (2, 2)
  | .set7D => some (2, 2)
  | .set7E => some (2, 2)
  | .set7H => some (2, 2)
  | .set7L => some (2, 2)
  | .set7MemHl => some (4, 4)
  | .set7A => some (2, 2)

/-- The condition an instruction tests, for the four conditional families (R352, R355, R357, R359). -/
def condOf (i : Instr) : Option Cond :=
  match i with
  | .jpNzNn _ => some .nz
  | .jrNzE _ => some .nz
  | .callNzNn _ => some .nz
  | .retNz => some .nz
  | .jpZNn _ => some .z
  | .jrZE _ => some .z
  | .callZNn _ => some .z
  | .retZ => some .z
  | .jpNcNn _ => some .nc
  | .jrNcE _ => some .nc
  | .callNcNn _ => some .nc
  | .retNc => some .nc
  | .jpCNn _ => some .c
  | .jrCE _ => some .c
  | .callCNn _ => some .c
  | .retC => some .c
  | _ => none

/-- The machine cycles of `i` when it is fetched from `s` (R173, R463). -/
def State.cyclesOf (s : State) (i : Instr) : Option Nat :=
  (mCycles i).map fun n =>
    match condOf i with
    | some k => if s.cond k then n.2 else n.1
    | none => n.2

/-- The machine cycles of the next step from a boundary: one idle cycle, five of dispatch, or those of the instruction
(R463). -/
def State.stepCycles (s : State) : Option Nat :=
  match s.boundary with
  | .idle => some 1
  | .dispatch _ => some 5
  | .fetch => s.cyclesOf s.fetchInstr

end Sys2Proof.Machine
end

