-- ==== Sys2Proof/Safety.lean ====
section
/-! DEFINITION. What counts as a good state and a safe run, and the terms in which claims speak of what an instruction changes
and leaves unchanged. -/

namespace Sys2Proof.Machine

/-! ## The invariant (10_state.md R39) -/

/-- A pipeline in flight has a row to run, and the scratch stack holds what the rows before it left; at a boundary the scratch
stack is empty (R39(b), R29). No halt state and no halt bug of `HALT` coexists with the rows of an instruction: `HALT` has
one row, and an opcode fetch has cleared `HALT_BUG` (R33, R34). -/
def State.PipeInv (s : State) : Bool :=
  match s.pipe with
  | none => s.scratch.isEmpty
  | some p =>
    decide (2 ≤ p.row) && decide (p.row ≤ p.template.rows.length) &&
      decide (p.template.depthBefore p.row = some s.scratch.length) && !s.haltActive

/-- The invariant: `F[3:0] = 0` (R39(a)), the pipeline and the scratch stack agree (R39(b)), never both `HALT_ACTIVE` and
`HALT_BUG` (R39(d) says it of one execution of `HALT`; of a creation it is the model's choice, log entry 25), memory in its
canonical form. -/
def State.Inv (s : State) : Bool :=
  s.f &&& 0x0F#8 == 0#8 && s.PipeInv && !(s.haltActive && s.haltBug) && Memory.wf s.mem

/-- "every state reachable from reset by `step()`, `setRegisters` and the environment's moves" (R39), with `step()` the spec's
machine cycle. A creation is one of R450 (`F` with a zero low nibble) that is not both halted and under the halt bug: the spec
does not say whether a `ResetState` may have both `HALT_ACTIVE` and `HALT_BUG` true (R450 and decision D2 restrict `F` alone, and
R39(d) speaks of one execution of `HALT`), and the premise `hh` leaves such records out. DESIGN CHOICE (log entry 25). -/
inductive Reachable : State → Prop where
  | create (hasKey1 : Bool) (r : ResetState) (mem : List Host.Cell) (hf : r.wf = true)
      (hh : (r.haltActive && r.haltBug) = false) (hm : Memory.wf mem = true) : Reachable (State.create hasKey1 r mem)
  | cycle (s t : State) (hs : Reachable s) (ht : cycle s = .next t) : Reachable t
  | setRegisters (s t : State) (r : Registers) (hs : Reachable s) (ht : s.setRegisters r = some t) : Reachable t
  | environment (s : State) (m : EnvMove) (hs : Reachable s) : Reachable (m.apply s)

/-- A safe outcome: a next state, and a good one. -/
def SafeOutcome (o : Host.Outcome State Fault Refusal) : Prop := ∃ t, o = .next t ∧ t.Inv = true

/-! ## What a claim says of an instruction's frame -/

/-- The 8-bit halves of an entry of table `r16`. -/
def pairHalves (p : Pair16) : List Reg8 :=
  match p with
  | .bc => [.b, .c]
  | .de => [.d, .e]
  | .hl => [.h, .l]
  | .sp => []

/-- The 8-bit registers an entry of table `r16stk` writes; `F` is not among them. -/
def stkHalves (q : StkPair) : List Reg8 :=
  match q with
  | .bc => [.b, .c]
  | .de => [.d, .e]
  | .hl => [.h, .l]
  | .af => [.a]

/-- What the opcode fetch and an instruction's own writes leave unchanged: every 8-bit register but `regs`, every byte of memory
but those at `addrs`, KEY1 but for a store to its address, the halt state, the pipeline and the scratch stack. `F`, `SP`, `PC`
and `IME` are spoken of apart. -/
structure Frame (regs : List Reg8) (addrs : List Word) (s t : State) : Prop where
  regs_same : ∀ r, r ∉ regs → t.reg r = s.reg r
  mem_same : ∀ x, x ∉ addrs → t.read x = s.read x
  key1_same : key1Addr ∉ addrs → t.key1 = s.key1
  speed_same : t.key1.map (·.doubleSpeed) = s.key1.map (·.doubleSpeed)
  halt_same : t.haltActive = s.haltActive
  bug_consumed : t.haltBug = false
  pipe_same : t.pipe = s.pipe
  scratch_same : t.scratch = s.scratch

/-- `IME` and `IME_SCHED` are unchanged. -/
def SameIme (s t : State) : Prop := t.ime = s.ime ∧ t.imeSched = s.imeSched

/-- The four flags of a state, and the low nibble of `F` zero (R21). -/
def HasFlags (t : State) (z n h c : Bool) : Prop :=
  t.fZ = z ∧ t.fN = n ∧ t.fH = h ∧ t.fC = c ∧ t.f &&& 0x0F#8 = 0#8

/-- The program counter past an instruction of `len` bytes; after the halt bug the opcode byte did not advance it (R174). -/
def pcPast (len : Nat) (s : State) : Word :=
  if s.haltBug then s.pc + BitVec.ofNat 16 (len - 1) else s.pc + BitVec.ofNat 16 len

/-- What the byte at `x` reads as after `v` was stored there: `v`, but at KEY1's address on the variant, where only
`PREPARE_SWITCH` is written and `DOUBLE_SPEED` is read-only (R419). -/
def storedByte (s : State) (x : Word) (v : Byte) : Byte :=
  if x = key1Addr then
    match s.key1 with
    | some k => bit01 k.doubleSpeed <<< 7 ||| 0x7E#8 ||| (v &&& 1#8)
    | none => v
  else v

/-! ## Results and flags in the terms of the rules, for claims: natural-number arithmetic and bit positions, not the
definitions of Machine/Flags.lean -/

/-- The exact value, modulo 256, of the operation named by an entry of table `alu` (R122 to R127); for `CP` the difference. -/
def aluValue (op : AluOp) (a b : Byte) (cin : Bool) : Nat :=
  match op with
  | .add => (a.toNat + b.toNat) % 256
  | .adc => (a.toNat + b.toNat + cin.toNat) % 256
  | .sub => (256 + a.toNat - b.toNat) % 256
  | .sbc => (512 + a.toNat - b.toNat - cin.toNat) % 256
  | .and => a.toNat &&& b.toNat
  | .xor => a.toNat ^^^ b.toNat
  | .or => a.toNat ||| b.toNat
  | .cp => (256 + a.toNat - b.toNat) % 256

/-- N after an operation of table `alu` (R149). -/
def aluSubtracts (op : AluOp) : Bool :=
  match op with
  | .sub => true
  | .sbc => true
  | .cp => true
  | .add => false
  | .adc => false
  | .and => false
  | .xor => false
  | .or => false

/-- H after an operation of table `alu`: the carry or borrow between the nibbles (R122 to R125, the "equivalent `h`"), 1 for
`AND`, 0 for `OR` and `XOR` (R127). -/
def aluHalf (op : AluOp) (a b : Byte) (cin : Bool) : Bool :=
  match op with
  | .add => decide (a.toNat % 16 + b.toNat % 16 > 15)
  | .adc => decide (a.toNat % 16 + b.toNat % 16 + cin.toNat > 15)
  | .sub => decide (a.toNat % 16 < b.toNat % 16)
  | .sbc => decide (a.toNat % 16 < b.toNat % 16 + cin.toNat)
  | .and => true
  | .xor => false
  | .or => false
  | .cp => decide (a.toNat % 16 < b.toNat % 16)

/-- C after an operation of table `alu`: the carry or borrow out of bit 7 (R122 to R125), 0 for the logic (R127). -/
def aluCarry (op : AluOp) (a b : Byte) (cin : Bool) : Bool :=
  match op with
  | .add => decide (a.toNat + b.toNat > 255)
  | .adc => decide (a.toNat + b.toNat + cin.toNat > 255)
  | .sub => decide (a.toNat < b.toNat)
  | .sbc => decide (a.toNat < b.toNat + cin.toNat)
  | .and => false
  | .xor => false
  | .or => false
  | .cp => decide (a.toNat < b.toNat)

/-- The byte in `A` afterwards: `CP` keeps `A` (R126). -/
def aluWritten (op : AluOp) (a b : Byte) (cin : Bool) : Nat :=
  match op with
  | .cp => a.toNat
  | op => aluValue op a b cin

/-- The four flags after an operation of table `alu`. -/
def AluFlags (op : AluOp) (a b : Byte) (cin : Bool) (t : State) : Prop :=
  HasFlags t (decide (aluValue op a b cin = 0)) (aluSubtracts op) (aluHalf op a b cin) (aluCarry op a b cin)

/-- Bit `j` of the result of a rotate or shift: which bit of the operand, or the incoming carry, comes there (R131 to R138). -/
def rotBit (o : RotOp) (v : Byte) (cin : Bool) (j : Fin 8) : Bool :=
  match o with
  | .rlc => v.getLsbD ((j.val + 7) % 8)
  | .rrc => v.getLsbD ((j.val + 1) % 8)
  | .rl => if j = 0 then cin else v.getLsbD (j.val - 1)
  | .rr => if j = 7 then cin else v.getLsbD (j.val + 1)
  | .sla => if j = 0 then false else v.getLsbD (j.val - 1)
  | .sra => if j = 7 then v.getLsbD 7 else v.getLsbD (j.val + 1)
  | .swap => v.getLsbD ((j.val + 4) % 8)
  | .srl => if j = 7 then false else v.getLsbD (j.val + 1)

/-- The bit that goes to C (R131 to R138). -/
def rotOut (o : RotOp) (v : Byte) : Bool :=
  match o with
  | .rlc => v.getLsbD 7
  | .rrc => v.getLsbD 0
  | .rl => v.getLsbD 7
  | .rr => v.getLsbD 0
  | .sla => v.getLsbD 7
  | .sra => v.getLsbD 0
  | .swap => false
  | .srl => v.getLsbD 0

/-- The rotate behind a rotate of `A` (R139). -/
def accRotOp (o : AccRot) : RotOp :=
  match o with
  | .rlca => .rlc
  | .rrca => .rrc
  | .rla => .rl
  | .rra => .rr

/-- `res` is the result of the rotate or shift `o` on `v`. -/
def IsRotated (o : RotOp) (v : Byte) (cin : Bool) (res : Byte) : Prop := ∀ j : Fin 8, res.getLsbD j = rotBit o v cin j

/-- The two decimal digits of `n`, one in each nibble. -/
def bcd (n : Nat) : Byte := BitVec.ofNat 8 (n / 10 % 10 * 16 + n % 10)

/-- The condition of a conditional instruction, by name (R95). -/
def CondHolds (k : Cond) (s : State) : Prop :=
  match k with
  | .nz => s.fZ = false
  | .z => s.fZ = true
  | .nc => s.fC = false
  | .c => s.fC = true

end Sys2Proof.Machine
end

