-- ==== Sys2Proof/Certificates/Slice0/Obligations.lean ====
section
/-! DEFINITION. The statements for the provers. A statement about an instruction says that `exec` answers a next state, for every
state and operands (a premise on memory where the byte read back after a store is named), what that state holds, and its
frame; `exec` covers the whole instruction up to its retire, which `step` adds. -/

open Sys2Proof Sys2Proof.Machine

/-! ## Encoding -/

/-- Decoding the encoding of a complete instruction, whatever bytes follow, gives that instruction and those bytes: every form
with every immediate (30_encoding.md R90 to R109). -/
def Obligations.DecodeOfEncodeIsTheInstruction : Prop :=
  ∀ (i : Instr) (rest : List Byte), WellFormed i = true → decode (encode i ++ rest) = .ok (i, rest)

/-- What the decoder reads is a complete instruction, and its encoding is exactly the bytes read: no byte is dropped and no two
byte strings are one instruction (30_encoding.md R90 to R109). -/
def Obligations.EncodeOfDecodeIsTheBytes : Prop :=
  ∀ (bytes rest : List Byte) (i : Instr), decode bytes = .ok (i, rest) → WellFormed i = true ∧ encode i ++ rest = bytes

/-- Every byte value begins an instruction (R104, R109): from any list that holds as many bytes as R105 gives its first byte, the
decoder reads one instruction of that length; it rejects a list only for ending too early. -/
def Obligations.EveryOpcodeByteDecodes : Prop :=
  ∀ (op : Byte) (rest : List Byte), 1 ≤ opcodeLength op ∧ opcodeLength op ≤ 3 ∧
    (opcodeLength op ≤ rest.length + 1 →
      ∃ i, decode (op :: rest) = .ok (i, (op :: rest).drop (opcodeLength op)) ∧ (encode i).length = opcodeLength op) ∧
    (rest.length + 1 < opcodeLength op → decode (op :: rest) = .error (.truncated op (opcodeLength op)))

/-- Words written out from the encodings of the rules decode to the instructions they stand for: one of each format, among them
a CB-prefixed one and an undefined opcode. -/
def Obligations.WordsOfTheEncodingDecode : Prop :=
  decode [0b01_000_001#8] = .ok (.ldBC, []) ∧
    decode [0b00_111_110#8, 0x2A#8] = .ok (.ldAN 0x2A#8, []) ∧
    decode [0b00_10_0_001#8, 0x00#8, 0xC0#8] = .ok (.ldHlNn 0xC000#16, []) ∧
    decode [0b10_000_110#8] = .ok (.addAMemHl, []) ∧
    decode [0b00_100_000#8, 0xFC#8] = .ok (.jrNzE 0xFC#8, []) ∧
    decode [0b11_001_101#8, 0x34#8, 0x12#8] = .ok (.callNn 0x1234#16, []) ∧
    decode [0b11_11_0_101#8] = .ok (.pushAf, []) ∧
    decode [0b11_001_011#8, 0b01_111_100#8] = .ok (.bit7H, []) ∧
    decode [0b11_010_011#8] = .ok (.undefinedD3, [])

/-! ## The step -/

/-- From a boundary that fetches, a step is `exec` of the decoded instruction, then retire (41_sequencer.md R172, R174, R181): the
halt state is left, the bytes are those at `PC` on (after the halt bug the byte at `PC` is read again), and retire commits a
scheduled enable unless the instruction is `EI`, empties `SCRATCH` and leaves `PIPE` none.
The step of one whole instruction is the model's (log entries 1 and 14); the commit's place is decision D8 (log entry 8). -/
def Obligations.StepRunsDecodedInstruction : Prop :=
  ∀ (s : State) (i : Instr) (rest : List Byte), s.pipe = none → (s.haltActive = true → s.pend ≠ 0#8) →
    (s.ime = true → s.pend = 0#8) →
    decode [s.read s.pc, s.read (if s.haltBug then s.pc else s.pc + 1#16),
        s.read (if s.haltBug then s.pc + 1#16 else s.pc + 2#16)] = .ok (i, rest) →
      ∃ t, exec i { s with haltActive := false } = .next t ∧
        step s = .next { t with
          ime := t.ime || (t.imeSched && decide (i ≠ .ei))
          imeSched := t.imeSched && decide (i = .ei)
          scratch := []
          pipe := none }

/-- The boundary decision's table, row by row (60_exceptions.md R426, which the spec derives from R172; R406, R415): what a step
and a machine cycle from a boundary do by `HALT_ACTIVE`, `pend` and `IME`; in the middle of a pipeline a cycle runs its next
row and decides nothing. -/
def Obligations.BoundaryDecisionTable : Prop :=
  ∀ s : State,
    (s.pipe = none →
      (s.haltActive = true → s.pend = 0#8 → step s = .next s ∧ cycleWithBus s = .next (.internal, s)) ∧
      (s.pend ≠ 0#8 → s.ime = true → ∃ k, highestPriority s.pend = some k ∧
        step s = .next (State.takeInterrupt { s with haltActive := false } k) ∧
        cycleWithBus s = runRow ⟨.dispatch k, 1⟩ { s with haltActive := false }) ∧
      (s.pend ≠ 0#8 → s.ime = false → step s = runInstr { s with haltActive := false } ∧
        cycleWithBus s = runRow ⟨.base (s.read s.pc), 1⟩ { s with haltActive := false }) ∧
      (s.pend = 0#8 → s.haltActive = false →
        step s = runInstr s ∧ cycleWithBus s = runRow ⟨.base (s.read s.pc), 1⟩ s)) ∧
    (∀ p, s.pipe = some p → cycleWithBus s = runRow (p.resolve s) s)

/-- The pending set bit by bit (R404; its value `0x1F` is the spec's general knowledge, log entry 6): raised in `IF`, enabled in
`IE`, one of the five sources, whatever `IME` is. Of it the lowest set bit number wins (R407, with the bit numbers and vectors of
R401, which are general knowledge, log entry 6). -/
def Obligations.PendingSetAndItsPriority : Prop :=
  (∀ (s : State) (i : Fin 8) (b : Bool),
    s.pend.getLsbD i = (decide (i.val < 5) && (s.read 0xFFFF#16).getLsbD i && (s.read 0xFF0F#16).getLsbD i) ∧
      State.pend { s with ime := b } = s.pend) ∧
    (∀ (pend : Byte) (k : IrqSource), highestPriority pend = some k ↔
      pend.getLsbD k.bit = true ∧ ∀ j : IrqSource, j.bit < k.bit → pend.getLsbD j.bit = false) ∧
    (∀ pend : Byte, highestPriority pend = none ↔ pend &&& 0x1F#8 = 0#8) ∧
    [IrqSource.vblank, .lcdStat, .timer, .serial, .joypad].map (fun k => (k.bit, k.vector)) =
      [(0, 0x0040#16), (1, 0x0048#16), (2, 0x0050#16), (3, 0x0058#16), (4, 0x0060#16)]

/-- `set(b, v)` and `res(b, v)` (R141): the masks `v | (1 << b)` and `v & ~(1 << b)` on 8 bits, which is bit `b` set or cleared and
every other bit kept; and no flag is written, in any operand form of `SET` and `RES`. Their encodings and bytes are not spoken
of here. -/
def Obligations.SetAndResFunctionsAreMasksWithNoFlag : Prop :=
  ∀ (n : Fin 8) (v : Byte) (x : Loc8) (s : State),
    setBit n v = v ||| 1#8 <<< n.val ∧ resBit n v = v &&& ~~~(1#8 <<< n.val) ∧
      (∀ j : Fin 8, (setBit n v).getLsbD j = (decide (j = n) || v.getLsbD j) ∧
        (resBit n v).getLsbD j = (decide (j ≠ n) && v.getLsbD j)) ∧
      ∃ t u, exec (.setLoc n x) s = .next t ∧ t.f = s.f ∧ exec (.resLoc n x) s = .next u ∧ u.f = s.f

/-- Taking an interrupt (R408's net effect, R409, R415): the flag bit cleared, `IME` and `IME_SCHED` false, the `PC` of the
boundary pushed high byte first, `PC` at the vector, the halt state left; nothing else saved or changed. Where a push falls on
`IF` it overwrites it (decision D12); `IME_SCHED` is decision D13 (log entry 10). -/
def Obligations.DispatchPushesPcAndEntersTheVector : Prop :=
  ∀ (s : State) (k : IrqSource), s.pipe = none → s.ime = true → s.pend ≠ 0#8 → highestPriority s.pend = some k →
    Memory.wf s.mem = true →
      ∃ t, step s = .next t ∧ t.pc = 0x0040#16 + 8#16 * BitVec.ofNat 16 k.bit ∧ t.sp = s.sp - 2#16 ∧
        t.ime = false ∧ t.imeSched = false ∧ t.haltActive = false ∧ t.haltBug = s.haltBug ∧ t.pipe = none ∧
        t.scratch = [] ∧ t.f = s.f ∧ (∀ r, t.reg r = s.reg r) ∧
        t.read (s.sp - 1#16) = storedByte s (s.sp - 1#16) (hiByte s.pc) ∧
        t.read (s.sp - 2#16) = storedByte s (s.sp - 2#16) (loByte s.pc) ∧
        (0xFF0F#16 ∉ [s.sp - 1#16, s.sp - 2#16] → ∀ i : Fin 8, (t.read 0xFF0F#16).getLsbD i =
          ((s.read 0xFF0F#16).getLsbD i && decide (i.val ≠ k.bit))) ∧
        (∀ x, x ∉ [0xFF0F#16, s.sp - 1#16, s.sp - 2#16] → t.read x = s.read x)

/-- `RETI` after a dispatch (R408, R412): wherever the handler's `RETI` stands, it brings back the interrupted `PC` and `SP` and
sets `IME` at once, when the two stacked bytes are ordinary memory. -/
def Obligations.RetiUndoesDispatch : Prop :=
  ∀ (s : State) (k : IrqSource), Memory.wf s.mem = true →
    s.isKey1 (s.sp - 1#16) = false → s.isKey1 (s.sp - 2#16) = false →
      ∃ t, exec .reti (s.takeInterrupt k) = .next t ∧ t.pc = s.pc ∧ t.sp = s.sp ∧ t.ime = true ∧ t.f = s.f ∧
        ∀ r, t.reg r = s.reg r

/-- A halted CORE with nothing pending idles (R414): every machine cycle has no bus access and changes nothing, however many
there are; and no instruction but `HALT`, with `IME` true or `pend` 0, makes a running CORE halted, nor does a dispatch. That an
idle cycle makes no bus access is decision D18 (log entry 10); the clause on `step` is about the model's own step (log entry 1). -/
def Obligations.HaltedCoreIdles : Prop :=
  (∀ (s : State) (n : Nat), s.pipe = none → s.haltActive = true → s.pend = 0#8 →
      cycleWithBus s = .next (.internal, s) ∧ cycles n s = .next s ∧ step s = .next s) ∧
    (∀ (s t : State) (i : Instr), exec i s = .next t → s.haltActive = false → t.haltActive = true →
      i = .halt ∧ (s.ime = true ∨ s.pend = 0#8)) ∧
    (∀ (s : State) (k : IrqSource), (s.takeInterrupt k).haltActive = s.haltActive)

/-- The delay of `EI` (R410, R181, decision D8, log entry 8): with a scheduled enable and `IME` false, the next step runs the
instruction at `PC` whatever is pending, and `IME` is true after it, unless it is `DI`; a second `EI` schedules again. -/
def Obligations.EnableCommitsAfterTheNextInstruction : Prop :=
  ∀ s : State, s.pipe = none → s.haltActive = false → s.ime = false → s.imeSched = true →
    ∃ t u, exec s.fetchInstr s = .next t ∧ step s = .next u ∧ u.pipe = none ∧ u.pc = t.pc ∧ u.sp = t.sp ∧ u.f = t.f ∧
      (∀ r, u.reg r = t.reg r) ∧ u.mem = t.mem ∧ u.key1 = t.key1 ∧ u.haltActive = t.haltActive ∧
      u.haltBug = t.haltBug ∧ u.ime = decide (s.fetchInstr ≠ .di) ∧ u.imeSched = decide (s.fetchInstr = .ei)

/-- The halt bug on a two-byte instruction (R416, R174, the example of R372): the byte at `PC` is both the opcode and the
immediate, `PC` advances over one byte only, and the bug is consumed. -/
def Obligations.HaltBugUsesTheByteTwice : Prop :=
  ∀ s : State, s.pipe = none → s.haltActive = false → s.ime = false → s.haltBug = true → s.read s.pc = 0x3E#8 →
    ∃ t, step s = .next t ∧ t.a = 0x3E#8 ∧ t.pc = s.pc + 1#16 ∧ t.haltBug = false

/-! ## Invariants, and the machine cycle -/

/-- Every state after creation meets the invariant, whatever the variant, the reset record with a legal `F`, and the bus; and the
reset state is the one of R450 (its register values are the spec's decision D2, log entry 3). That a record is not both halted
and under the halt bug is the model's choice (log entry 25). -/
def Obligations.CreationMeetsTheInvariant : Prop :=
  (∀ (hasKey1 : Bool) (r : ResetState) (mem : List Host.Cell), r.wf = true → (r.haltActive && r.haltBug) = false →
      Memory.wf mem = true → (State.create hasKey1 r mem).Inv = true ∧ (State.create hasKey1 r mem).pipe = none ∧
        (State.create hasKey1 r mem).scratch = []) ∧
    State.reset.Inv = true ∧ State.reset.getRegisters = ⟨0, 0, 0, 0, 0, 0, 0, 0, 0, 0⟩ ∧
    State.reset.ime = false ∧ State.reset.imeSched = false ∧ State.reset.haltActive = false ∧ State.reset.haltBug = false

/-- Every step keeps the invariant and answers a next state: no fault and no refusal is reached from a good state (R39, R185). -/
def Obligations.StepKeepsTheInvariant : Prop :=
  ∀ s : State, s.Inv = true → SafeOutcome (step s)

/-- The spec's own `step()`, one machine cycle, answers a next state from every good state and keeps the invariant (R185, R39,
R466): no scratch underflow, no dangling cursor. -/
def Obligations.CycleKeepsTheInvariant : Prop :=
  ∀ s : State, s.Inv = true → SafeOutcome (cycle s)

/-- What R39 says of every state reachable by the CORE's cycles, `setRegisters` and the environment's moves: (a) `F[3:0] = 0`;
(b) `SCRATCH` empty whenever `PIPE` is none; (c) at a boundary `HALT_ACTIVE` with nothing pending starts no pipeline; (d) never
both `HALT_ACTIVE` and `HALT_BUG`; and the next cycle answers a next state (R185). R39 is the spec's derivation; that no creation has both
`HALT_ACTIVE` and `HALT_BUG` is the model's choice (log entry 25). -/
def Obligations.ReachableStatesAreGood : Prop :=
  ∀ s : State, Reachable s →
    s.f &&& 0x0F#8 = 0#8 ∧ (s.pipe = none → s.scratch = []) ∧
      (s.pipe = none → s.haltActive = true → s.pend = 0#8 → cycle s = .next s) ∧
      ¬ (s.haltActive = true ∧ s.haltBug = true) ∧ ∃ t, cycle s = .next t

/-- The cycle-count law and the refinement (R173, R463, R10): from a boundary, the model's one step is exactly as many of the
spec's machine cycles as the timing table says, one to six; between the first and the last of them a pipeline is in flight, and
after the last none is. The two sides are two transcriptions: the rules' net effects and their M-cycle tables. -/
def Obligations.StepIsTheCyclesOfTheTimingTable : Prop :=
  ∀ s : State, s.pipe = none → ∃ n t, s.stepCycles = some n ∧ 1 ≤ n ∧ n ≤ 6 ∧ cycles n s = .next t ∧ step s = .next t ∧
    t.pipe = none ∧ ∀ m, 0 < m → m < n → ∃ u, cycles m s = .next u ∧ u.pipe ≠ none

/-- A pipeline in flight ends within five more cycles (R188, R466), and the model's step from there is those cycles. -/
def Obligations.PipelineEndsWithinFiveCycles : Prop :=
  ∀ s : State, s.Inv = true → s.pipe ≠ none →
    ∃ n t, 1 ≤ n ∧ n ≤ 5 ∧ cycles n s = .next t ∧ t.pipe = none ∧ step s = .next t

/-- In the middle of a pipeline a cycle does not look at `IME` (R172, R188): with the other `IME` the bus sees the same access and
the next state differs in `IME` at most. -/
def Obligations.MidPipelineIgnoresIme : Prop :=
  ∀ (s t : State) (p : Pipe) (op : BusOp) (b : Bool), s.pipe = some p → 2 ≤ p.row → cycleWithBus s = .next (op, t) →
    ∃ c, cycleWithBus { s with ime := b } = .next (op, { t with ime := c })

/-! ## Rules of the whole machine, over all instructions -/

/-- Only the instructions that R22 does not list as writing no flag change `F`: the ALU forms, `INC`/`DEC` of a byte, the adjusts,
`ADD HL,rr`, `ADD SP,e`, `LD HL,SP+e`, the rotates, `BIT`, `POP AF`, and the row of the bare prefix, which runs one of them. -/
def Obligations.OnlyFlagWritersChangeF : Prop :=
  ∀ (i : Instr) (s t : State), exec i s = .next t → t.f ≠ s.f →
    (∃ op x, i = .aluLoc op x) ∨ (∃ op n, i = .aluImm op n) ∨ (∃ x, i = .incLoc x) ∨ (∃ x, i = .decLoc x) ∨
      i ∈ [.daa, .cpl, .scf, .ccf, .popAf, .prefixCb] ∨ (∃ p, i = .addHlPair p) ∨ (∃ e, i = .addSpE e) ∨
      (∃ e, i = .ldHlSpE e) ∨ (∃ o, i = .accRot o) ∨ (∃ o x, i = .rotLoc o x) ∨ (∃ n x, i = .bitLoc n x)

/-- `IME` is changed by `DI`, `RETI` and the enable that `EI` schedules, and by no other instruction (R370, R31, R32);
`HALT_ACTIVE` by `HALT` alone; `HALT_BUG` is consumed by every instruction and set by `HALT` alone (R34); `DOUBLE_SPEED` is
changed by `STOP` alone (R35); no instruction touches `PIPE` or `SCRATCH` beyond its own pipeline (R30). -/
def Obligations.ControlStateHasFewWriters : Prop :=
  ∀ (i : Instr) (s t : State), exec i s = .next t →
    (i ∉ [.di, .ei, .reti] → t.ime = s.ime) ∧ (i ∉ [.di, .ei] → t.imeSched = s.imeSched) ∧
      (i ≠ .halt → t.haltActive = s.haltActive ∧ t.haltBug = false) ∧
      (i ≠ .stop → t.key1.map (·.doubleSpeed) = s.key1.map (·.doubleSpeed)) ∧ t.pipe = s.pipe ∧ t.scratch = s.scratch

/-- `SP` is written by the instructions R24 lists and by no other. -/
def Obligations.StackPointerHasFewWriters : Prop :=
  ∀ (i : Instr) (s t : State), exec i s = .next t → t.sp ≠ s.sp →
    (∃ nn, i = .ldPairImm .sp nn) ∨ i ∈ [.ldSpHl, .incSp, .decSp, .ret, .reti] ∨ (∃ e, i = .addSpE e) ∨
      (∃ q, i = .push q) ∨ (∃ q, i = .pop q) ∨ (∃ nn, i = .callNn nn) ∨ (∃ k nn, i = .callCond k nn) ∨
      (∃ k, i = .retCond k) ∨ (∃ y, i = .rst y)

/-! ## Memory, KEY1, and the host's calls -/

/-- Memories in canonical form that read alike are equal. The reference memory is the spec's fixture (R78, decision D6, log
entry 2). -/
def Obligations.MemoriesThatReadAlikeAreEqual : Prop :=
  ∀ m m' : List Host.Cell, Memory.wf m = true → Memory.wf m' = true →
    (∀ x : Word, memRead m x.toNat = memRead m' x.toNat) → m = m'

/-- KEY1 (R419): on the variant the byte at 0xFF4D is `DOUBLE_SPEED` in bit 7, ones in bits 6 to 1, `PREPARE_SWITCH` in bit 0; a
write there sets `PREPARE_SWITCH` from bit 0 and changes nothing else. On base hardware the address is memory like any other. The
layout is general knowledge (log entry 6) and the routing decision D16 (log entry 17). -/
def Obligations.Key1PortReadsAndWrites : Prop :=
  (∀ (s : State) (k : Key1) (v : Byte) (i : Fin 8), s.key1 = some k →
      (s.read 0xFF4D#16).getLsbD i = (if i = 7 then k.doubleSpeed else if i = 0 then k.prepareSwitch else true) ∧
        s.write 0xFF4D#16 v = { s with key1 := some ⟨k.doubleSpeed, v.getLsbD 0⟩ } ∧
        s.key1Read = some (s.read 0xFF4D#16) ∧ s.key1Write v = s.write 0xFF4D#16 v) ∧
    (∀ (s : State) (v : Byte), s.key1 = none → Memory.wf s.mem = true →
      (s.write 0xFF4D#16 v).read 0xFF4D#16 = v ∧ (s.write 0xFF4D#16 v).key1 = none ∧ s.key1Read = none)

/-- `setRegisters` and `getRegisters` (R451, R452, decision D17, log entry 19): at a boundary the ten registers take the values
given, `F` masked, and nothing else changes; in the middle of an instruction the call has no result. -/
def Obligations.HostRegistersRoundTrip : Prop :=
  ∀ (s : State) (r : Registers),
    (s.pipe = none → ∃ t, s.setRegisters r = some t ∧ t.getRegisters = { r with f := r.f &&& 0xF0#8 } ∧
      t.ime = s.ime ∧ t.imeSched = s.imeSched ∧ t.haltActive = s.haltActive ∧ t.haltBug = s.haltBug ∧
      t.pipe = s.pipe ∧ t.scratch = s.scratch ∧ t.key1 = s.key1 ∧ t.mem = s.mem) ∧
    (s.pipe ≠ none → s.setRegisters r = none)

/-- The environment's moves (R77, R405): `requestInterrupt` raises its bit of `IF` and changes no other byte; no move changes any
state of the CORE. The trace callback (R186, R174): a machine cycle with it, whatever it is, ends in the same state as without;
absent, which is the default (R7), it leaves the host's data; present, it is called once in a cycle that fetches an opcode, with
the mnemonic of the instruction fetched, and not in an idle cycle, a dispatch or a later row (decision D9). For a CB-prefixed
instruction the mnemonic is the full one or the prefix's, by a free value (log entry 15). -/
def Obligations.EnvironmentMovesAndTraceLeaveTheCore : Prop :=
  (∀ (s : State) (k : IrqSource) (m : EnvMove),
    ({ m.apply s with mem := s.mem } = s) ∧
      (Memory.wf s.mem = true → (∀ i : Fin 8, ((s.requestInterrupt k).read 0xFF0F#16).getLsbD i =
          ((s.read 0xFF0F#16).getLsbD i || decide (i.val = k.bit))) ∧
        (∀ x, x ≠ 0xFF0F#16 → (s.requestInterrupt k).read x = s.read x))) ∧
    ∀ (α : Type) (s t : State) (host : α) (call : String → α → α), cycle s = .next t →
      tracedCycle s host = .next (host, t) ∧
        (s.pipe = none → (s.haltActive = true → s.pend ≠ 0#8) → (s.ime = true → s.pend = 0#8) →
          ∃ text, tracedCycle s host (some call) = .next (call text host, t) ∧
            (s.read s.pc ≠ 0xCB#8 → text = mnemonic s.fetchInstr) ∧
            (s.read s.pc = 0xCB#8 → text ∈ [mnemonic s.fetchInstr, "PREFIX CB"])) ∧
        (s.pipe ≠ none ∨ (s.haltActive = true ∧ s.pend = 0#8) ∨ (s.ime = true ∧ s.pend ≠ 0#8) →
          tracedCycle s host (some call) = .next (host, t))

/-! ## ALU functions -/

/-- `add8`, `adc8`, `sub8`, `sbc8` (R122 to R125): the result modulo 256, Z, N, C by comparison with the exact sum or difference,
and H in both of the forms the rules give. `and8`, `or8`, `xor8` (R127): the bitwise result, Z from it, N and C 0, H 1 for `and8`
alone; with the rule's corner cases. -/
def Obligations.EightBitAluLaws : Prop :=
  ∀ (a b : Byte) (cin : Bool),
    ((add8 a b).1.toNat = (a.toNat + b.toNat) % 256 ∧
      (add8 a b).2 = ⟨some (decide ((a.toNat + b.toNat) % 256 = 0)), some false,
        some (decide (a.toNat % 16 + b.toNat % 16 > 15)), some (decide (a.toNat + b.toNat > 255))⟩ ∧
      (add8 a b).2.h = some (decide (((add8 a b).1 ^^^ a ^^^ b) &&& 0x10#8 ≠ 0#8))) ∧
    ((adc8 a b cin).1.toNat = (a.toNat + b.toNat + cin.toNat) % 256 ∧
      (adc8 a b cin).2 = ⟨some (decide ((a.toNat + b.toNat + cin.toNat) % 256 = 0)), some false,
        some (decide (a.toNat % 16 + b.toNat % 16 + cin.toNat > 15)),
        some (decide (a.toNat + b.toNat + cin.toNat > 255))⟩ ∧
      (adc8 a b cin).2.h = some (decide (((adc8 a b cin).1 ^^^ a ^^^ b) &&& 0x10#8 ≠ 0#8))) ∧
    (((sub8 a b).1.toNat : Int) = ((a.toNat : Int) - b.toNat) % 256 ∧
      (sub8 a b).2 = ⟨some (decide (((a.toNat : Int) - b.toNat) % 256 = 0)), some true,
        some (decide (a.toNat % 16 < b.toNat % 16)), some (decide (a.toNat < b.toNat))⟩ ∧
      (sub8 a b).2.h = some (decide (((sub8 a b).1 ^^^ a ^^^ b) &&& 0x10#8 ≠ 0#8))) ∧
    (((sbc8 a b cin).1.toNat : Int) = ((a.toNat : Int) - b.toNat - cin.toNat) % 256 ∧
      (sbc8 a b cin).2 = ⟨some (decide (((a.toNat : Int) - b.toNat - cin.toNat) % 256 = 0)), some true,
        some (decide (a.toNat % 16 < b.toNat % 16 + cin.toNat)), some (decide (a.toNat < b.toNat + cin.toNat))⟩ ∧
      (sbc8 a b cin).2.h = some (decide (((sbc8 a b cin).1 ^^^ a ^^^ b) &&& 0x10#8 ≠ 0#8))) ∧
    and8 a b = (a &&& b, ⟨some (decide (a &&& b = 0#8)), some false, some true, some false⟩) ∧
      or8 a b = (a ||| b, ⟨some (decide (a ||| b = 0#8)), some false, some false, some false⟩) ∧
      xor8 a b = (a ^^^ b, ⟨some (decide (a ^^^ b = 0#8)), some false, some false, some false⟩) ∧
      xor8 a a = (0#8, ⟨some true, some false, some false, some false⟩) ∧ (and8 a a).1 = a ∧
      or8 0#8 0#8 = (0#8, ⟨some true, some false, some false, some false⟩)

/-- The laws of R147, which the spec derives: commutation, subtraction as addition of the complement, the carry-in forms, inverse
rotates, and a zero low nibble of `F` after every function. -/
def Obligations.AluAlgebra : Prop :=
  ∀ (a b : Byte) (cin : Bool) (n : Fin 8) (t : FlagTuple) (f : Byte),
    (add8 a b).1 = (add8 b a).1 ∧ (sub8 a b).1 = (add8 a (0#8 - b)).1 ∧
      (b ≠ 0#8 → (sub8 a b).2.c = (add8 a (0#8 - b)).2.c.map (!·)) ∧
      adc8 a b false = add8 a b ∧ sbc8 a b false = sub8 a b ∧ (aluApply .cp a b cin).2 = (sub8 a b).2 ∧
      (rrc8 (rlc8 a).1).1 = a ∧ (swap8 (swap8 a).1).1 = a ∧ (cpl8 (cpl8 a).1).1 = a ∧
      resBit n (setBit n a) = resBit n a ∧ t.applyTo f &&& 0x0F#8 = 0#8

/-- `DAA` after the addition or the subtraction of two valid BCD bytes gives the BCD sum or difference modulo 100, with the
decimal carry or borrow in C (R279, R142; the correction table is general knowledge, log entry 6). -/
def Obligations.DaaCorrectsBcdSumsAndDifferences : Prop :=
  ∀ (s : State) (x y : Fin 100), s.a = bcd x → s.b = bcd y →
    (∃ t u, exec (.aluReg .add .b) s = .next t ∧ exec .daa t = .next u ∧ u.a = bcd ((x.val + y.val) % 100) ∧
        u.fC = decide (99 < x.val + y.val)) ∧
      (∃ t u, exec (.aluReg .sub .b) s = .next t ∧ exec .daa t = .next u ∧ u.a = bcd ((100 + x.val - y.val) % 100) ∧
        u.fC = decide (x.val < y.val))

/-! ## 8-bit loads and stores -/

/-- `LD r,r'`, `LD r,n`, `LD r,(HL)` (R201 to R203): the destination register takes the byte, the address is the old `HL`, no flag
is written. -/
def Obligations.RegisterLoadsCopyTheByte : Prop :=
  ∀ (s : State) (x y : Reg8) (n : Byte),
    (∃ t, exec (.ldRegReg x y) s = .next t ∧ t.reg x = s.reg y ∧ t.pc = pcPast 1 s ∧ t.sp = s.sp ∧ t.f = s.f ∧
      SameIme s t ∧ Frame [x] [] s t) ∧
    (∃ t, exec (.ldRegImm x n) s = .next t ∧ t.reg x = n ∧ t.pc = pcPast 2 s ∧ t.sp = s.sp ∧ t.f = s.f ∧
      SameIme s t ∧ Frame [x] [] s t) ∧
    (∃ t, exec (.ldRegMem x) s = .next t ∧ t.reg x = s.read s.hl ∧ t.pc = pcPast 1 s ∧ t.sp = s.sp ∧ t.f = s.f ∧
      SameIme s t ∧ Frame [x] [] s t)

/-- `LD (HL),r`, `LD (HL),n` (R204, R205): the byte is stored at `HL`, and every other address reads as before. -/
def Obligations.StoresThroughHlWriteTheByte : Prop :=
  ∀ (s : State) (y : Reg8) (n : Byte), Memory.wf s.mem = true →
    (∃ t, exec (.ldMemReg y) s = .next t ∧ t.read s.hl = storedByte s s.hl (s.reg y) ∧ t.pc = pcPast 1 s ∧
      t.sp = s.sp ∧ t.f = s.f ∧ SameIme s t ∧ Frame [] [s.hl] s t) ∧
    (∃ t, exec (.ldMemHlN n) s = .next t ∧ t.read s.hl = storedByte s s.hl n ∧ t.pc = pcPast 2 s ∧
      t.sp = s.sp ∧ t.f = s.f ∧ SameIme s t ∧ Frame [] [s.hl] s t)

/-- The loads of `A` through `BC`, `DE`, an absolute address and the high page (R206, R207, R210, R212, R214). -/
def Obligations.AccumulatorLoadsReadTheirAddress : Prop :=
  ∀ (s : State) (nn : Word) (n : Byte) (form : Instr × Word × Nat),
    form ∈ [(.ldAMemBc, s.b ++ s.c, 1), (.ldAMemDe, s.d ++ s.e, 1), (.ldAMemNn nn, nn, 3), (.ldhAMemC, 0xFF#8 ++ s.c, 1),
        (.ldhAMemN n, 0xFF#8 ++ n, 2)] →
      ∃ t, exec form.1 s = .next t ∧ t.a = s.read form.2.1 ∧ t.pc = pcPast form.2.2 s ∧ t.sp = s.sp ∧ t.f = s.f ∧
        SameIme s t ∧ Frame [.a] [] s t

/-- The stores of `A` through `BC`, `DE`, an absolute address and the high page (R208, R209, R211, R213, R215). -/
def Obligations.AccumulatorStoresWriteTheirAddress : Prop :=
  ∀ (s : State) (nn : Word) (n : Byte) (form : Instr × Word × Nat), Memory.wf s.mem = true →
    form ∈ [(.ldMemBcA, s.b ++ s.c, 1), (.ldMemDeA, s.d ++ s.e, 1), (.ldMemNnA nn, nn, 3), (.ldhMemCA, 0xFF#8 ++ s.c, 1),
        (.ldhMemNA n, 0xFF#8 ++ n, 2)] →
      ∃ t, exec form.1 s = .next t ∧ t.read form.2.1 = storedByte s form.2.1 s.a ∧ t.pc = pcPast form.2.2 s ∧
        t.sp = s.sp ∧ t.f = s.f ∧ SameIme s t ∧ Frame [] [form.2.1] s t

/-- `LD A,(HL+)`, `LD A,(HL-)`, `LD (HL+),A`, `LD (HL-),A` (R216 to R219): the access is at the old `HL`, and `HL` is stepped by
one modulo 65536, whatever the access; no other register but `A` in the loads changes. -/
def Obligations.HlSteppingFormsMoveHlByOne : Prop :=
  ∀ (s : State) (load store : Instr) (d : Word), Memory.wf s.mem = true →
    (load, store, d) ∈ [(Instr.ldAMemHlInc, Instr.ldMemHlIncA, 1#16), (.ldAMemHlDec, .ldMemHlDecA, -1#16)] →
      (∃ t, exec load s = .next t ∧ t.a = s.read s.hl ∧ t.hl = s.hl + d ∧ t.pc = pcPast 1 s ∧ t.sp = s.sp ∧ t.f = s.f ∧
        SameIme s t ∧ Frame [.a, .h, .l] [] s t) ∧
      (∃ t, exec store s = .next t ∧ t.read s.hl = storedByte s s.hl s.a ∧ t.hl = s.hl + d ∧ t.pc = pcPast 1 s ∧
        t.sp = s.sp ∧ t.f = s.f ∧ SameIme s t ∧ Frame [.h, .l] [s.hl] s t)

/-! ## 16-bit loads and the stack -/

/-- `LD rr,nn` and `LD SP,HL` (R231, R233): the pair takes the word, its high half the first-named register (R23); `SP` changes
only where it is the destination. -/
def Obligations.PairLoadsTakeTheWord : Prop :=
  ∀ (s : State) (p : Pair16) (nn : Word),
    (∃ t, exec (.ldPairImm p nn) s = .next t ∧ t.pair p = nn ∧ (p ≠ .sp → t.sp = s.sp) ∧ t.pc = pcPast 3 s ∧ t.f = s.f ∧
      SameIme s t ∧ Frame (pairHalves p) [] s t) ∧
    (∃ t, exec .ldSpHl s = .next t ∧ t.sp = s.h ++ s.l ∧ t.pc = pcPast 1 s ∧ t.f = s.f ∧ SameIme s t ∧ Frame [] [] s t)

/-- `LD (nn),SP` (R232, R66): the low byte of `SP` at `nn`, the high byte at `nn + 1` modulo 65536. -/
def Obligations.StoreSpWritesLowByteFirst : Prop :=
  ∀ (s : State) (nn : Word), Memory.wf s.mem = true →
    ∃ t, exec (.ldMemNnSp nn) s = .next t ∧ t.read nn = storedByte s nn (s.sp.extractLsb' 0 8) ∧
      t.read (nn + 1#16) = storedByte s (nn + 1#16) (s.sp.extractLsb' 8 8) ∧ t.pc = pcPast 3 s ∧ t.sp = s.sp ∧
      t.f = s.f ∧ SameIme s t ∧ Frame [] [nn, nn + 1#16] s t

/-- `PUSH qq` (R234): the high byte at `SP - 1`, the low byte at `SP - 2`, `SP` lowered by 2; `PUSH AF` pushes `F` as it is. -/
def Obligations.PushWritesThePairBelowSp : Prop :=
  ∀ (s : State) (q : StkPair), Memory.wf s.mem = true →
    ∃ t, exec (.push q) s = .next t ∧ t.sp = s.sp - 2#16 ∧
      t.read (s.sp - 1#16) = storedByte s (s.sp - 1#16)
        (match q with | .bc => s.b | .de => s.d | .hl => s.h | .af => s.a) ∧
      t.read (s.sp - 2#16) = storedByte s (s.sp - 2#16)
        (match q with | .bc => s.c | .de => s.e | .hl => s.l | .af => s.f) ∧
      t.pc = pcPast 1 s ∧ t.f = s.f ∧ SameIme s t ∧ Frame [] [s.sp - 1#16, s.sp - 2#16] s t

/-- `POP qq` (R235, R236): the low byte from `SP`, the high byte from `SP + 1`, `SP` raised by 2; `POP AF` masks the low byte
with 0xF0 into `F`, and only `POP AF` writes `F`. -/
def Obligations.PopReadsThePairAtSp : Prop :=
  ∀ (s : State) (q : StkPair),
    ∃ t, exec (.pop q) s = .next t ∧ t.sp = s.sp + 2#16 ∧
      (match q with | .bc => t.b | .de => t.d | .hl => t.h | .af => t.a) = s.read (s.sp + 1#16) ∧
      (match q with | .bc => t.c | .de => t.e | .hl => t.l | .af => t.f) =
        (if q = .af then s.read s.sp &&& 0xF0#8 else s.read s.sp) ∧
      (q ≠ .af → t.f = s.f) ∧ t.pc = pcPast 1 s ∧ SameIme s t ∧ Frame (stkHalves q) [] s t

/-- A push, then a pop into any pair (R66, R234 to R236): the popped pair is the pushed one, masked where `AF` is popped, and `SP`
is back, wherever `SP` is, when the two bytes are not KEY1's. -/
def Obligations.PopAfterPushGivesThePair : Prop :=
  ∀ (s : State) (q q' : StkPair), Memory.wf s.mem = true → s.isKey1 (s.sp - 1#16) = false →
    s.isKey1 (s.sp - 2#16) = false →
      ∃ t u, exec (.push q) s = .next t ∧ exec (.pop q') t = .next u ∧ u.sp = s.sp ∧
        u.stk q' = (if q' = .af then s.stk q &&& 0xFFF0#16 else s.stk q)

/-- `ADD SP,e` and `LD HL,SP+e` (R304, R237, R146): the sum with the displacement as a signed byte, Z and N 0, H and C the carries
out of bits 3 and 7 of the unsigned addition of the low bytes. -/
def Obligations.SpDisplacementAddsSignedByte : Prop :=
  ∀ (s : State) (e : Byte),
    (∃ t, exec (.addSpE e) s = .next t ∧ t.sp = s.sp + e.signExtend 16 ∧
      HasFlags t false false (decide (s.sp.toNat % 16 + e.toNat % 16 > 15))
        (decide (s.sp.toNat % 256 + e.toNat > 255)) ∧
      t.pc = pcPast 2 s ∧ SameIme s t ∧ Frame [] [] s t) ∧
    (∃ t, exec (.ldHlSpE e) s = .next t ∧ t.hl = s.sp + e.signExtend 16 ∧ t.sp = s.sp ∧
      HasFlags t false false (decide (s.sp.toNat % 16 + e.toNat % 16 > 15))
        (decide (s.sp.toNat % 256 + e.toNat > 255)) ∧
      t.pc = pcPast 2 s ∧ SameIme s t ∧ Frame [.h, .l] [] s t)

/-! ## 8-bit arithmetic and logic -/

/-- The eight operations of table `alu` in their three operand forms (R250 to R274): `A` takes the result (`CP` keeps `A`), the
four flags are those of R122 to R127 with the incoming carry, in natural-number arithmetic. -/
def Obligations.AluFormsComputeResultAndFlags : Prop :=
  ∀ (s : State) (op : AluOp) (r : Reg8) (n : Byte),
    (∃ t, exec (.aluReg op r) s = .next t ∧ t.a.toNat = aluWritten op s.a (s.reg r) s.fC ∧
      AluFlags op s.a (s.reg r) s.fC t ∧ t.pc = pcPast 1 s ∧ t.sp = s.sp ∧ SameIme s t ∧ Frame [.a] [] s t) ∧
    (∃ t, exec (.aluMem op) s = .next t ∧ t.a.toNat = aluWritten op s.a (s.read s.hl) s.fC ∧
      AluFlags op s.a (s.read s.hl) s.fC t ∧ t.pc = pcPast 1 s ∧ t.sp = s.sp ∧ SameIme s t ∧ Frame [.a] [] s t) ∧
    (∃ t, exec (.aluImm op n) s = .next t ∧ t.a.toNat = aluWritten op s.a n s.fC ∧
      AluFlags op s.a n s.fC t ∧ t.pc = pcPast 2 s ∧ t.sp = s.sp ∧ SameIme s t ∧ Frame [.a] [] s t)

/-- `INC r`, `DEC r` (R275, R277, R128): plus or minus one modulo 256, H at a low nibble of 15 or 0, C kept. -/
def Obligations.IncAndDecRegisterKeepCarry : Prop :=
  ∀ (s : State) (r : Reg8),
    (∃ t, exec (.incReg r) s = .next t ∧ (t.reg r).toNat = ((s.reg r).toNat + 1) % 256 ∧
      HasFlags t (decide ((s.reg r).toNat = 255)) false (decide ((s.reg r).toNat % 16 = 15)) s.fC ∧
      t.pc = pcPast 1 s ∧ t.sp = s.sp ∧ SameIme s t ∧ Frame [r] [] s t) ∧
    (∃ t, exec (.decReg r) s = .next t ∧ (t.reg r).toNat = ((s.reg r).toNat + 255) % 256 ∧
      HasFlags t (decide ((s.reg r).toNat = 1)) true (decide ((s.reg r).toNat % 16 = 0)) s.fC ∧
      t.pc = pcPast 1 s ∧ t.sp = s.sp ∧ SameIme s t ∧ Frame [r] [] s t)

/-- `INC (HL)`, `DEC (HL)` (R276, R278, R128): the byte at `HL` read, stepped and written back; no register changes. -/
def Obligations.IncAndDecMemoryWriteBack : Prop :=
  ∀ s : State, Memory.wf s.mem = true →
    (∃ t, exec .incMemHl s = .next t ∧ t.read s.hl = storedByte s s.hl (s.read s.hl + 1#8) ∧
      HasFlags t (decide ((s.read s.hl).toNat = 255)) false (decide ((s.read s.hl).toNat % 16 = 15)) s.fC ∧
      t.pc = pcPast 1 s ∧ t.sp = s.sp ∧ SameIme s t ∧ Frame [] [s.hl] s t) ∧
    (∃ t, exec .decMemHl s = .next t ∧ t.read s.hl = storedByte s s.hl (s.read s.hl - 1#8) ∧
      HasFlags t (decide ((s.read s.hl).toNat = 1)) true (decide ((s.read s.hl).toNat % 16 = 0)) s.fC ∧
      t.pc = pcPast 1 s ∧ t.sp = s.sp ∧ SameIme s t ∧ Frame [] [s.hl] s t)

/-- `DAA` on every `A` and every flag combination (R279, R142; the correction table is general knowledge, log entry 6): both
tests on the incoming `A`, N kept, H cleared, C set by the high correction and never cleared. -/
def Obligations.DaaAppliesTheCorrectionTable : Prop :=
  ∀ s : State, ∃ t, exec .daa s = .next t ∧
    (let low := s.fH = true ∨ (s.fN = false ∧ s.a.toNat % 16 > 9)
     let high := s.fC = true ∨ (s.fN = false ∧ s.a.toNat > 0x99)
     let corr := (if low then 6 else 0) + (if high then 0x60 else 0)
     t.a.toNat = (if s.fN then (256 + s.a.toNat - corr) % 256 else (s.a.toNat + corr) % 256) ∧
       HasFlags t (decide (t.a.toNat = 0)) s.fN false (decide high)) ∧
    t.pc = pcPast 1 s ∧ t.sp = s.sp ∧ SameIme s t ∧ Frame [.a] [] s t

/-- `CPL`, `SCF`, `CCF` (R280 to R282, R143, R144). -/
def Obligations.ComplementAndCarryInstructions : Prop :=
  ∀ s : State,
    (∃ t, exec .cpl s = .next t ∧ t.a = ~~~s.a ∧ HasFlags t s.fZ true true s.fC ∧ t.pc = pcPast 1 s ∧ t.sp = s.sp ∧
      SameIme s t ∧ Frame [.a] [] s t) ∧
    (∃ t, exec .scf s = .next t ∧ HasFlags t s.fZ false false true ∧ t.pc = pcPast 1 s ∧ t.sp = s.sp ∧
      SameIme s t ∧ Frame [] [] s t) ∧
    (∃ t, exec .ccf s = .next t ∧ HasFlags t s.fZ false false (!s.fC) ∧ t.pc = pcPast 1 s ∧ t.sp = s.sp ∧
      SameIme s t ∧ Frame [] [] s t)

/-! ## 16-bit arithmetic -/

/-- `ADD HL,rr` (R301, R145): the sum modulo 65536, Z kept, N 0, H and C the carries out of bits 11 and 15. `INC rr`, `DEC rr`
(R302, R303): plus or minus one modulo 65536, no flag, not even at the wrap. -/
def Obligations.PairArithmeticResultsAndFlags : Prop :=
  ∀ (s : State) (p : Pair16),
    (∃ t, exec (.addHlPair p) s = .next t ∧ t.hl.toNat = (s.hl.toNat + (s.pair p).toNat) % 65536 ∧
      HasFlags t s.fZ false (decide (s.hl.toNat % 4096 + (s.pair p).toNat % 4096 > 4095))
        (decide (s.hl.toNat + (s.pair p).toNat > 65535)) ∧
      t.pc = pcPast 1 s ∧ t.sp = s.sp ∧ SameIme s t ∧ Frame [.h, .l] [] s t) ∧
    (∃ t, exec (.incPair p) s = .next t ∧ t.pair p = s.pair p + 1#16 ∧ (p ≠ .sp → t.sp = s.sp) ∧ t.f = s.f ∧
      t.pc = pcPast 1 s ∧ SameIme s t ∧ Frame (pairHalves p) [] s t) ∧
    (∃ t, exec (.decPair p) s = .next t ∧ t.pair p = s.pair p - 1#16 ∧ (p ≠ .sp → t.sp = s.sp) ∧ t.f = s.f ∧
      t.pc = pcPast 1 s ∧ SameIme s t ∧ Frame (pairHalves p) [] s t)

/-! ## Rotates and bit operations -/

/-- `RLCA`, `RRCA`, `RLA`, `RRA` (R311 to R314, R139): `A` rotated bit by bit, C the bit rotated out, Z, N and H 0 whatever the
result. -/
def Obligations.AccumulatorRotatesNeverSetZ : Prop :=
  ∀ (s : State) (o : AccRot),
    ∃ t, exec (.accRot o) s = .next t ∧ IsRotated (accRotOp o) s.a s.fC t.a ∧
      HasFlags t false false false (rotOut (accRotOp o) s.a) ∧ t.pc = pcPast 1 s ∧ t.sp = s.sp ∧ SameIme s t ∧
      Frame [.a] [] s t

/-- The CB-prefixed rotates and shifts of a register and of `(HL)` (R310, R315 to R330, R130): every bit of the result, Z from the
result, N and H 0, C the bit shifted out. -/
def Obligations.CbRotatesAndShiftsMoveEveryBit : Prop :=
  ∀ (s : State) (o : RotOp) (r : Reg8),
    (∃ t, exec (.rotReg o r) s = .next t ∧ IsRotated o (s.reg r) s.fC (t.reg r) ∧
      HasFlags t (decide (t.reg r = 0#8)) false false (rotOut o (s.reg r)) ∧ t.pc = pcPast 2 s ∧ t.sp = s.sp ∧
      SameIme s t ∧ Frame [r] [] s t) ∧
    (Memory.wf s.mem = true → ∃ t res, exec (.rotMem o) s = .next t ∧ IsRotated o (s.read s.hl) s.fC res ∧
      t.read s.hl = storedByte s s.hl res ∧ HasFlags t (decide (res = 0#8)) false false (rotOut o (s.read s.hl)) ∧
      t.pc = pcPast 2 s ∧ t.sp = s.sp ∧ SameIme s t ∧ Frame [] [s.hl] s t)

/-- `BIT b` on a register and on `(HL)` (R331, R332, R140): Z the complement of the tested bit, N 0, H 1, C kept; nothing else is
written. -/
def Obligations.BitTestsComplementIntoZ : Prop :=
  ∀ (s : State) (n : Fin 8) (r : Reg8),
    (∃ t, exec (.bitReg n r) s = .next t ∧ HasFlags t (!(s.reg r).getLsbD n) false true s.fC ∧ t.pc = pcPast 2 s ∧
      t.sp = s.sp ∧ SameIme s t ∧ Frame [] [] s t) ∧
    (∃ t, exec (.bitMem n) s = .next t ∧ HasFlags t (!(s.read s.hl).getLsbD n) false true s.fC ∧ t.pc = pcPast 2 s ∧
      t.sp = s.sp ∧ SameIme s t ∧ Frame [] [] s t)

/-- `SET b` and `RES b` on a register and on `(HL)` are `v | (1 << b)` and `v & ~(1 << b)`, with no flag written (R141; the forms
of R333 to R336, which are general knowledge, log entry 6). The byte read back at `HL` is `storedByte`'s: at KEY1's address it
is the port's (R419, decision D16, log entry 17). -/
def Obligations.SetAndResAreBitMasks : Prop :=
  ∀ (s : State) (n : Fin 8) (r : Reg8),
    (∃ t, exec (.setReg n r) s = .next t ∧ t.reg r = s.reg r ||| 1#8 <<< n.val ∧ t.f = s.f ∧ t.pc = pcPast 2 s ∧
      t.sp = s.sp ∧ SameIme s t ∧ Frame [r] [] s t) ∧
    (∃ t, exec (.resReg n r) s = .next t ∧ t.reg r = s.reg r &&& ~~~(1#8 <<< n.val) ∧ t.f = s.f ∧ t.pc = pcPast 2 s ∧
      t.sp = s.sp ∧ SameIme s t ∧ Frame [r] [] s t) ∧
    (Memory.wf s.mem = true →
      (∃ t, exec (.setMem n) s = .next t ∧ t.read s.hl = storedByte s s.hl (s.read s.hl ||| 1#8 <<< n.val) ∧ t.f = s.f ∧
        t.pc = pcPast 2 s ∧ t.sp = s.sp ∧ SameIme s t ∧ Frame [] [s.hl] s t) ∧
      (∃ t, exec (.resMem n) s = .next t ∧ t.read s.hl = storedByte s s.hl (s.read s.hl &&& ~~~(1#8 <<< n.val)) ∧
        t.f = s.f ∧ t.pc = pcPast 2 s ∧ t.sp = s.sp ∧ SameIme s t ∧ Frame [] [s.hl] s t))

/-! ## Control transfers -/

/-- `JP nn`, `JP cc,nn`, `JP HL`, `JR e`, `JR cc,e` (R351 to R355): the target when unconditional or when the condition holds,
else past the instruction; a relative target is counted from past the instruction. `PC` alone changes. -/
def Obligations.JumpsSetPc : Prop :=
  ∀ (s : State) (k : Cond) (nn : Word) (e : Byte) (form : Instr × Word),
    form ∈ [(.jpNn nn, nn), (.jpHl, s.h ++ s.l), (.jrE e, pcPast 2 s + e.signExtend 16)] ∨
      (CondHolds k s ∧ form ∈ [(.jpCond k nn, nn), (.jrCond k e, pcPast 2 s + e.signExtend 16)]) ∨
      (¬ CondHolds k s ∧ form ∈ [(.jpCond k nn, pcPast 3 s), (.jrCond k e, pcPast 2 s)]) →
      exec form.1 s = .next { s with pc := form.2, haltBug := false }

/-- `CALL nn`, `CALL cc,nn` taken, `RST t` (R356, R357, R361, R66): the address past the instruction pushed high byte first, `SP`
lowered by 2, `PC` at the target; `CALL cc,nn` not taken only goes past the instruction. -/
def Obligations.CallsPushTheReturnAddress : Prop :=
  ∀ (s : State) (k : Cond) (nn : Word) (y : Fin 8) (form : Instr × Word × Word), Memory.wf s.mem = true →
    (form ∈ [(.callNn nn, nn, pcPast 3 s), (.rst y, BitVec.ofNat 16 (8 * y.val), pcPast 1 s)] ∨
      CondHolds k s ∧ form = (.callCond k nn, nn, pcPast 3 s) →
      ∃ t, exec form.1 s = .next t ∧ t.pc = form.2.1 ∧ t.sp = s.sp - 2#16 ∧
        t.read (s.sp - 1#16) = storedByte s (s.sp - 1#16) (form.2.2.extractLsb' 8 8) ∧
        t.read (s.sp - 2#16) = storedByte s (s.sp - 2#16) (form.2.2.extractLsb' 0 8) ∧ t.f = s.f ∧ SameIme s t ∧
        Frame [] [s.sp - 1#16, s.sp - 2#16] s t) ∧
    (¬ CondHolds k s → exec (.callCond k nn) s = .next { s with pc := pcPast 3 s, haltBug := false })

/-- `RET`, `RET cc` taken, `RETI` (R358 to R360, R412): `PC` from the two bytes at `SP`, low byte first, `SP` raised by 2; `RETI`
also sets `IME` at once and leaves `IME_SCHED`; `RET cc` not taken only goes past the instruction. -/
def Obligations.ReturnsPopPc : Prop :=
  ∀ (s : State) (k : Cond),
    (∀ i : Instr, i = .ret ∨ (CondHolds k s ∧ i = .retCond k) → exec i s = .next { s with
      pc := s.read (s.sp + 1#16) ++ s.read s.sp
      sp := s.sp + 2#16
      haltBug := false }) ∧
    exec .reti s = .next { s with
      pc := s.read (s.sp + 1#16) ++ s.read s.sp
      sp := s.sp + 2#16
      ime := true
      haltBug := false } ∧
    (¬ CondHolds k s → exec (.retCond k) s = .next { s with pc := pcPast 1 s, haltBug := false })

/-- A call, then a return from anywhere (R356, R358, R361): the return comes to the address past the call with `SP` as it was,
when the two bytes are not KEY1's. -/
def Obligations.ReturnAfterCallComesBack : Prop :=
  ∀ (s : State) (nn pc' : Word) (y : Fin 8) (call : Instr × Nat), Memory.wf s.mem = true →
    s.isKey1 (s.sp - 1#16) = false → s.isKey1 (s.sp - 2#16) = false → call ∈ [(.callNn nn, 3), (.rst y, 1)] →
      ∃ t u, exec call.1 s = .next t ∧ exec .ret { t with pc := pc' } = .next u ∧ u.pc = pcPast call.2 s ∧ u.sp = s.sp

/-! ## System instructions -/

/-- `NOP` and the eleven undefined opcodes (R371, R377): past the one byte, nothing else. -/
def Obligations.NopAndUndefinedOpcodesOnlyAdvancePc : Prop :=
  ∀ (s : State) (i : Instr),
    i ∈ [.nop, .undefinedD3, .undefinedDB, .undefinedDD, .undefinedE3, .undefinedE4, .undefinedEB, .undefinedEC,
        .undefinedED, .undefinedF4, .undefinedFC, .undefinedFD] →
      exec i s = .next { s with pc := pcPast 1 s, haltBug := false }

/-- `HALT` (R372): halted with `IME` true or nothing pending; otherwise the halt bug is set and the CORE is not halted. Nothing
else changes but `PC`. -/
def Obligations.HaltChoosesHaltOrHaltBug : Prop :=
  ∀ s : State,
    (s.ime = true ∨ s.pend = 0#8 → exec .halt s = .next { s with pc := pcPast 1 s, haltActive := true, haltBug := false }) ∧
    (s.ime = false → s.pend ≠ 0#8 → exec .halt s = .next { s with pc := pcPast 1 s, haltBug := true })

/-- `STOP` (R373; one byte by decision D10, log entry 9): on the variant with `PREPARE_SWITCH` set the speed is toggled and
`PREPARE_SWITCH` cleared; otherwise, and on base hardware, it only goes past its byte. -/
def Obligations.StopSwitchesSpeedWhenPrepared : Prop :=
  ∀ (s : State) (d : Bool),
    (s.key1 = some ⟨d, true⟩ →
      exec .stop s = .next { s with pc := pcPast 1 s, haltBug := false, key1 := some ⟨!d, false⟩ }) ∧
    (s.key1 = none ∨ s.key1 = some ⟨d, false⟩ → exec .stop s = .next { s with pc := pcPast 1 s, haltBug := false })

/-- `DI` clears `IME` and `IME_SCHED` at once (R374, decision D11); `EI` schedules an enable and changes `IME` only by committing
an earlier schedule (R375, decision D8, log entry 8). -/
def Obligations.DiAndEiSetTheEnables : Prop :=
  ∀ s : State,
    exec .di s = .next { s with pc := pcPast 1 s, haltBug := false, ime := false, imeSched := false } ∧
    exec .ei s = .next { s with pc := pcPast 1 s, haltBug := false, ime := s.ime || s.imeSched, imeSched := true }

/-- The row of the CB prefix runs the CB table's row of the byte after the prefix (R376), which after the halt bug is the prefix
byte again; the decoder never gives the bare prefix. -/
def Obligations.PrefixRowRunsTheCbTable : Prop :=
  ∀ (s : State) (op b1 b2 : Byte),
    (∃ t, exec .prefixCb s = .next t ∧
      exec (cbInstr (s.read (if s.haltBug then s.pc else s.pc + 1#16))) s = .next t) ∧
    decode3 op b1 b2 ≠ .prefixCb ∧ decode3 0xCB#8 b1 b2 = cbInstr b1
end

