-- ==== Sys2Proof/Laws/State.lean ====
section
/-! SUPPORT. For every update of `State` and every field, what the field holds afterwards; the read-through lemmas of the
views (registers, pairs, flags, the bus) over the updates. Each is true by unfolding one record update. -/

namespace Sys2Proof.Machine

variable (s : State)

/-! ### `setFlags` -/

@[simp] theorem State.setFlags_a (t : FlagTuple) : (s.setFlags t).a = s.a := rfl
@[simp] theorem State.setFlags_f (t : FlagTuple) : (s.setFlags t).f = t.applyTo s.f := rfl
@[simp] theorem State.setFlags_b (t : FlagTuple) : (s.setFlags t).b = s.b := rfl
@[simp] theorem State.setFlags_c (t : FlagTuple) : (s.setFlags t).c = s.c := rfl
@[simp] theorem State.setFlags_d (t : FlagTuple) : (s.setFlags t).d = s.d := rfl
@[simp] theorem State.setFlags_e (t : FlagTuple) : (s.setFlags t).e = s.e := rfl
@[simp] theorem State.setFlags_h (t : FlagTuple) : (s.setFlags t).h = s.h := rfl
@[simp] theorem State.setFlags_l (t : FlagTuple) : (s.setFlags t).l = s.l := rfl
@[simp] theorem State.setFlags_sp (t : FlagTuple) : (s.setFlags t).sp = s.sp := rfl
@[simp] theorem State.setFlags_pc (t : FlagTuple) : (s.setFlags t).pc = s.pc := rfl
@[simp] theorem State.setFlags_ime (t : FlagTuple) : (s.setFlags t).ime = s.ime := rfl
@[simp] theorem State.setFlags_imeSched (t : FlagTuple) : (s.setFlags t).imeSched = s.imeSched := rfl
@[simp] theorem State.setFlags_haltActive (t : FlagTuple) : (s.setFlags t).haltActive = s.haltActive := rfl
@[simp] theorem State.setFlags_haltBug (t : FlagTuple) : (s.setFlags t).haltBug = s.haltBug := rfl
@[simp] theorem State.setFlags_pipe (t : FlagTuple) : (s.setFlags t).pipe = s.pipe := rfl
@[simp] theorem State.setFlags_scratch (t : FlagTuple) : (s.setFlags t).scratch = s.scratch := rfl
@[simp] theorem State.setFlags_key1 (t : FlagTuple) : (s.setFlags t).key1 = s.key1 := rfl
@[simp] theorem State.setFlags_mem (t : FlagTuple) : (s.setFlags t).mem = s.mem := rfl

/-! ### `write` -/

@[simp] theorem State.write_a (x : Word) (v : Byte) : (s.write x v).a = s.a := rfl
@[simp] theorem State.write_f (x : Word) (v : Byte) : (s.write x v).f = s.f := rfl
@[simp] theorem State.write_b (x : Word) (v : Byte) : (s.write x v).b = s.b := rfl
@[simp] theorem State.write_c (x : Word) (v : Byte) : (s.write x v).c = s.c := rfl
@[simp] theorem State.write_d (x : Word) (v : Byte) : (s.write x v).d = s.d := rfl
@[simp] theorem State.write_e (x : Word) (v : Byte) : (s.write x v).e = s.e := rfl
@[simp] theorem State.write_h (x : Word) (v : Byte) : (s.write x v).h = s.h := rfl
@[simp] theorem State.write_l (x : Word) (v : Byte) : (s.write x v).l = s.l := rfl
@[simp] theorem State.write_sp (x : Word) (v : Byte) : (s.write x v).sp = s.sp := rfl
@[simp] theorem State.write_pc (x : Word) (v : Byte) : (s.write x v).pc = s.pc := rfl
@[simp] theorem State.write_ime (x : Word) (v : Byte) : (s.write x v).ime = s.ime := rfl
@[simp] theorem State.write_imeSched (x : Word) (v : Byte) : (s.write x v).imeSched = s.imeSched := rfl
@[simp] theorem State.write_haltActive (x : Word) (v : Byte) : (s.write x v).haltActive = s.haltActive := rfl
@[simp] theorem State.write_haltBug (x : Word) (v : Byte) : (s.write x v).haltBug = s.haltBug := rfl
@[simp] theorem State.write_pipe (x : Word) (v : Byte) : (s.write x v).pipe = s.pipe := rfl
@[simp] theorem State.write_scratch (x : Word) (v : Byte) : (s.write x v).scratch = s.scratch := rfl
@[simp] theorem State.write_key1 (x : Word) (v : Byte) : (s.write x v).key1 = if s.isKey1 x then s.key1.map (·.write v) else s.key1 := rfl
@[simp] theorem State.write_mem (x : Word) (v : Byte) : (s.write x v).mem = if s.isKey1 x then s.mem else memWrite s.mem x.toNat v := rfl

/-! ### `pushByte` -/

@[simp] theorem State.pushByte_a (v : Byte) : (s.pushByte v).a = s.a := rfl
@[simp] theorem State.pushByte_f (v : Byte) : (s.pushByte v).f = s.f := rfl
@[simp] theorem State.pushByte_b (v : Byte) : (s.pushByte v).b = s.b := rfl
@[simp] theorem State.pushByte_c (v : Byte) : (s.pushByte v).c = s.c := rfl
@[simp] theorem State.pushByte_d (v : Byte) : (s.pushByte v).d = s.d := rfl
@[simp] theorem State.pushByte_e (v : Byte) : (s.pushByte v).e = s.e := rfl
@[simp] theorem State.pushByte_h (v : Byte) : (s.pushByte v).h = s.h := rfl
@[simp] theorem State.pushByte_l (v : Byte) : (s.pushByte v).l = s.l := rfl
@[simp] theorem State.pushByte_sp (v : Byte) : (s.pushByte v).sp = s.sp - 1#16 := rfl
@[simp] theorem State.pushByte_pc (v : Byte) : (s.pushByte v).pc = s.pc := rfl
@[simp] theorem State.pushByte_ime (v : Byte) : (s.pushByte v).ime = s.ime := rfl
@[simp] theorem State.pushByte_imeSched (v : Byte) : (s.pushByte v).imeSched = s.imeSched := rfl
@[simp] theorem State.pushByte_haltActive (v : Byte) : (s.pushByte v).haltActive = s.haltActive := rfl
@[simp] theorem State.pushByte_haltBug (v : Byte) : (s.pushByte v).haltBug = s.haltBug := rfl
@[simp] theorem State.pushByte_pipe (v : Byte) : (s.pushByte v).pipe = s.pipe := rfl
@[simp] theorem State.pushByte_scratch (v : Byte) : (s.pushByte v).scratch = s.scratch := rfl
@[simp] theorem State.pushByte_key1 (v : Byte) : (s.pushByte v).key1 = if s.isKey1 (s.sp - 1#16) then s.key1.map (·.write v) else s.key1 := rfl
@[simp] theorem State.pushByte_mem (v : Byte) : (s.pushByte v).mem = if s.isKey1 (s.sp - 1#16) then s.mem else memWrite s.mem (s.sp - 1#16).toNat v := rfl

/-! ### `dropByte` -/

@[simp] theorem State.dropByte_a : (s.dropByte).a = s.a := rfl
@[simp] theorem State.dropByte_f : (s.dropByte).f = s.f := rfl
@[simp] theorem State.dropByte_b : (s.dropByte).b = s.b := rfl
@[simp] theorem State.dropByte_c : (s.dropByte).c = s.c := rfl
@[simp] theorem State.dropByte_d : (s.dropByte).d = s.d := rfl
@[simp] theorem State.dropByte_e : (s.dropByte).e = s.e := rfl
@[simp] theorem State.dropByte_h : (s.dropByte).h = s.h := rfl
@[simp] theorem State.dropByte_l : (s.dropByte).l = s.l := rfl
@[simp] theorem State.dropByte_sp : (s.dropByte).sp = s.sp + 1#16 := rfl
@[simp] theorem State.dropByte_pc : (s.dropByte).pc = s.pc := rfl
@[simp] theorem State.dropByte_ime : (s.dropByte).ime = s.ime := rfl
@[simp] theorem State.dropByte_imeSched : (s.dropByte).imeSched = s.imeSched := rfl
@[simp] theorem State.dropByte_haltActive : (s.dropByte).haltActive = s.haltActive := rfl
@[simp] theorem State.dropByte_haltBug : (s.dropByte).haltBug = s.haltBug := rfl
@[simp] theorem State.dropByte_pipe : (s.dropByte).pipe = s.pipe := rfl
@[simp] theorem State.dropByte_scratch : (s.dropByte).scratch = s.scratch := rfl
@[simp] theorem State.dropByte_key1 : (s.dropByte).key1 = s.key1 := rfl
@[simp] theorem State.dropByte_mem : (s.dropByte).mem = s.mem := rfl

/-! ### `pastOpcode` -/

@[simp] theorem State.pastOpcode_a : (s.pastOpcode).a = s.a := rfl
@[simp] theorem State.pastOpcode_f : (s.pastOpcode).f = s.f := rfl
@[simp] theorem State.pastOpcode_b : (s.pastOpcode).b = s.b := rfl
@[simp] theorem State.pastOpcode_c : (s.pastOpcode).c = s.c := rfl
@[simp] theorem State.pastOpcode_d : (s.pastOpcode).d = s.d := rfl
@[simp] theorem State.pastOpcode_e : (s.pastOpcode).e = s.e := rfl
@[simp] theorem State.pastOpcode_h : (s.pastOpcode).h = s.h := rfl
@[simp] theorem State.pastOpcode_l : (s.pastOpcode).l = s.l := rfl
@[simp] theorem State.pastOpcode_sp : (s.pastOpcode).sp = s.sp := rfl
@[simp] theorem State.pastOpcode_pc : (s.pastOpcode).pc = s.pcAfterOpcode := rfl
@[simp] theorem State.pastOpcode_ime : (s.pastOpcode).ime = s.ime := rfl
@[simp] theorem State.pastOpcode_imeSched : (s.pastOpcode).imeSched = s.imeSched := rfl
@[simp] theorem State.pastOpcode_haltActive : (s.pastOpcode).haltActive = s.haltActive := rfl
@[simp] theorem State.pastOpcode_haltBug : (s.pastOpcode).haltBug = false := rfl
@[simp] theorem State.pastOpcode_pipe : (s.pastOpcode).pipe = s.pipe := rfl
@[simp] theorem State.pastOpcode_scratch : (s.pastOpcode).scratch = s.scratch := rfl
@[simp] theorem State.pastOpcode_key1 : (s.pastOpcode).key1 = s.key1 := rfl
@[simp] theorem State.pastOpcode_mem : (s.pastOpcode).mem = s.mem := rfl

/-! ### `pastParam` -/

@[simp] theorem State.pastParam_a : (s.pastParam).a = s.a := rfl
@[simp] theorem State.pastParam_f : (s.pastParam).f = s.f := rfl
@[simp] theorem State.pastParam_b : (s.pastParam).b = s.b := rfl
@[simp] theorem State.pastParam_c : (s.pastParam).c = s.c := rfl
@[simp] theorem State.pastParam_d : (s.pastParam).d = s.d := rfl
@[simp] theorem State.pastParam_e : (s.pastParam).e = s.e := rfl
@[simp] theorem State.pastParam_h : (s.pastParam).h = s.h := rfl
@[simp] theorem State.pastParam_l : (s.pastParam).l = s.l := rfl
@[simp] theorem State.pastParam_sp : (s.pastParam).sp = s.sp := rfl
@[simp] theorem State.pastParam_pc : (s.pastParam).pc = s.pc + 1#16 := rfl
@[simp] theorem State.pastParam_ime : (s.pastParam).ime = s.ime := rfl
@[simp] theorem State.pastParam_imeSched : (s.pastParam).imeSched = s.imeSched := rfl
@[simp] theorem State.pastParam_haltActive : (s.pastParam).haltActive = s.haltActive := rfl
@[simp] theorem State.pastParam_haltBug : (s.pastParam).haltBug = s.haltBug := rfl
@[simp] theorem State.pastParam_pipe : (s.pastParam).pipe = s.pipe := rfl
@[simp] theorem State.pastParam_scratch : (s.pastParam).scratch = s.scratch := rfl
@[simp] theorem State.pastParam_key1 : (s.pastParam).key1 = s.key1 := rfl
@[simp] theorem State.pastParam_mem : (s.pastParam).mem = s.mem := rfl

/-! ### `jump` -/

@[simp] theorem State.jump_a (x : Word) : (s.jump x).a = s.a := rfl
@[simp] theorem State.jump_f (x : Word) : (s.jump x).f = s.f := rfl
@[simp] theorem State.jump_b (x : Word) : (s.jump x).b = s.b := rfl
@[simp] theorem State.jump_c (x : Word) : (s.jump x).c = s.c := rfl
@[simp] theorem State.jump_d (x : Word) : (s.jump x).d = s.d := rfl
@[simp] theorem State.jump_e (x : Word) : (s.jump x).e = s.e := rfl
@[simp] theorem State.jump_h (x : Word) : (s.jump x).h = s.h := rfl
@[simp] theorem State.jump_l (x : Word) : (s.jump x).l = s.l := rfl
@[simp] theorem State.jump_sp (x : Word) : (s.jump x).sp = s.sp := rfl
@[simp] theorem State.jump_pc (x : Word) : (s.jump x).pc = x := rfl
@[simp] theorem State.jump_ime (x : Word) : (s.jump x).ime = s.ime := rfl
@[simp] theorem State.jump_imeSched (x : Word) : (s.jump x).imeSched = s.imeSched := rfl
@[simp] theorem State.jump_haltActive (x : Word) : (s.jump x).haltActive = s.haltActive := rfl
@[simp] theorem State.jump_haltBug (x : Word) : (s.jump x).haltBug = s.haltBug := rfl
@[simp] theorem State.jump_pipe (x : Word) : (s.jump x).pipe = s.pipe := rfl
@[simp] theorem State.jump_scratch (x : Word) : (s.jump x).scratch = s.scratch := rfl
@[simp] theorem State.jump_key1 (x : Word) : (s.jump x).key1 = s.key1 := rfl
@[simp] theorem State.jump_mem (x : Word) : (s.jump x).mem = s.mem := rfl

/-! ### `retire` -/

@[simp] theorem State.retire_a (k : Bool) : (s.retire k).a = s.a := rfl
@[simp] theorem State.retire_f (k : Bool) : (s.retire k).f = s.f := rfl
@[simp] theorem State.retire_b (k : Bool) : (s.retire k).b = s.b := rfl
@[simp] theorem State.retire_c (k : Bool) : (s.retire k).c = s.c := rfl
@[simp] theorem State.retire_d (k : Bool) : (s.retire k).d = s.d := rfl
@[simp] theorem State.retire_e (k : Bool) : (s.retire k).e = s.e := rfl
@[simp] theorem State.retire_h (k : Bool) : (s.retire k).h = s.h := rfl
@[simp] theorem State.retire_l (k : Bool) : (s.retire k).l = s.l := rfl
@[simp] theorem State.retire_sp (k : Bool) : (s.retire k).sp = s.sp := rfl
@[simp] theorem State.retire_pc (k : Bool) : (s.retire k).pc = s.pc := rfl
@[simp] theorem State.retire_ime (k : Bool) : (s.retire k).ime = if k && s.imeSched then true else s.ime := rfl
@[simp] theorem State.retire_imeSched (k : Bool) : (s.retire k).imeSched = if k && s.imeSched then false else s.imeSched := rfl
@[simp] theorem State.retire_haltActive (k : Bool) : (s.retire k).haltActive = s.haltActive := rfl
@[simp] theorem State.retire_haltBug (k : Bool) : (s.retire k).haltBug = s.haltBug := rfl
@[simp] theorem State.retire_pipe (k : Bool) : (s.retire k).pipe = none := rfl
@[simp] theorem State.retire_scratch (k : Bool) : (s.retire k).scratch = [] := rfl
@[simp] theorem State.retire_key1 (k : Bool) : (s.retire k).key1 = s.key1 := rfl
@[simp] theorem State.retire_mem (k : Bool) : (s.retire k).mem = s.mem := rfl

/-! ### `woken` -/

@[simp] theorem State.woken_a : (s.woken).a = s.a := rfl
@[simp] theorem State.woken_f : (s.woken).f = s.f := rfl
@[simp] theorem State.woken_b : (s.woken).b = s.b := rfl
@[simp] theorem State.woken_c : (s.woken).c = s.c := rfl
@[simp] theorem State.woken_d : (s.woken).d = s.d := rfl
@[simp] theorem State.woken_e : (s.woken).e = s.e := rfl
@[simp] theorem State.woken_h : (s.woken).h = s.h := rfl
@[simp] theorem State.woken_l : (s.woken).l = s.l := rfl
@[simp] theorem State.woken_sp : (s.woken).sp = s.sp := rfl
@[simp] theorem State.woken_pc : (s.woken).pc = s.pc := rfl
@[simp] theorem State.woken_ime : (s.woken).ime = s.ime := rfl
@[simp] theorem State.woken_imeSched : (s.woken).imeSched = s.imeSched := rfl
@[simp] theorem State.woken_haltActive : (s.woken).haltActive = false := rfl
@[simp] theorem State.woken_haltBug : (s.woken).haltBug = s.haltBug := rfl
@[simp] theorem State.woken_pipe : (s.woken).pipe = s.pipe := rfl
@[simp] theorem State.woken_scratch : (s.woken).scratch = s.scratch := rfl
@[simp] theorem State.woken_key1 : (s.woken).key1 = s.key1 := rfl
@[simp] theorem State.woken_mem : (s.woken).mem = s.mem := rfl

/-! ### `halt` -/

@[simp] theorem State.halt_a : (s.halt).a = s.a := rfl
@[simp] theorem State.halt_f : (s.halt).f = s.f := rfl
@[simp] theorem State.halt_b : (s.halt).b = s.b := rfl
@[simp] theorem State.halt_c : (s.halt).c = s.c := rfl
@[simp] theorem State.halt_d : (s.halt).d = s.d := rfl
@[simp] theorem State.halt_e : (s.halt).e = s.e := rfl
@[simp] theorem State.halt_h : (s.halt).h = s.h := rfl
@[simp] theorem State.halt_l : (s.halt).l = s.l := rfl
@[simp] theorem State.halt_sp : (s.halt).sp = s.sp := rfl
@[simp] theorem State.halt_pc : (s.halt).pc = s.pc := rfl
@[simp] theorem State.halt_ime : (s.halt).ime = s.ime := rfl
@[simp] theorem State.halt_imeSched : (s.halt).imeSched = s.imeSched := rfl
@[simp] theorem State.halt_haltActive : (s.halt).haltActive = if s.ime || s.pend == 0#8 then true else s.haltActive := rfl
@[simp] theorem State.halt_haltBug : (s.halt).haltBug = if s.ime || s.pend == 0#8 then s.haltBug else true := rfl
@[simp] theorem State.halt_pipe : (s.halt).pipe = s.pipe := rfl
@[simp] theorem State.halt_scratch : (s.halt).scratch = s.scratch := rfl
@[simp] theorem State.halt_key1 : (s.halt).key1 = s.key1 := rfl
@[simp] theorem State.halt_mem : (s.halt).mem = s.mem := rfl

/-! ### `stop` -/

@[simp] theorem State.stop_a : (s.stop).a = s.a := rfl
@[simp] theorem State.stop_f : (s.stop).f = s.f := rfl
@[simp] theorem State.stop_b : (s.stop).b = s.b := rfl
@[simp] theorem State.stop_c : (s.stop).c = s.c := rfl
@[simp] theorem State.stop_d : (s.stop).d = s.d := rfl
@[simp] theorem State.stop_e : (s.stop).e = s.e := rfl
@[simp] theorem State.stop_h : (s.stop).h = s.h := rfl
@[simp] theorem State.stop_l : (s.stop).l = s.l := rfl
@[simp] theorem State.stop_sp : (s.stop).sp = s.sp := rfl
@[simp] theorem State.stop_pc : (s.stop).pc = s.pc := rfl
@[simp] theorem State.stop_ime : (s.stop).ime = s.ime := rfl
@[simp] theorem State.stop_imeSched : (s.stop).imeSched = s.imeSched := rfl
@[simp] theorem State.stop_haltActive : (s.stop).haltActive = s.haltActive := rfl
@[simp] theorem State.stop_haltBug : (s.stop).haltBug = s.haltBug := rfl
@[simp] theorem State.stop_pipe : (s.stop).pipe = s.pipe := rfl
@[simp] theorem State.stop_scratch : (s.stop).scratch = s.scratch := rfl
@[simp] theorem State.stop_key1 : (s.stop).key1 = s.key1.map Key1.switch := rfl
@[simp] theorem State.stop_mem : (s.stop).mem = s.mem := rfl

/-! ### `di` -/

@[simp] theorem State.di_a : (s.di).a = s.a := rfl
@[simp] theorem State.di_f : (s.di).f = s.f := rfl
@[simp] theorem State.di_b : (s.di).b = s.b := rfl
@[simp] theorem State.di_c : (s.di).c = s.c := rfl
@[simp] theorem State.di_d : (s.di).d = s.d := rfl
@[simp] theorem State.di_e : (s.di).e = s.e := rfl
@[simp] theorem State.di_h : (s.di).h = s.h := rfl
@[simp] theorem State.di_l : (s.di).l = s.l := rfl
@[simp] theorem State.di_sp : (s.di).sp = s.sp := rfl
@[simp] theorem State.di_pc : (s.di).pc = s.pc := rfl
@[simp] theorem State.di_ime : (s.di).ime = false := rfl
@[simp] theorem State.di_imeSched : (s.di).imeSched = false := rfl
@[simp] theorem State.di_haltActive : (s.di).haltActive = s.haltActive := rfl
@[simp] theorem State.di_haltBug : (s.di).haltBug = s.haltBug := rfl
@[simp] theorem State.di_pipe : (s.di).pipe = s.pipe := rfl
@[simp] theorem State.di_scratch : (s.di).scratch = s.scratch := rfl
@[simp] theorem State.di_key1 : (s.di).key1 = s.key1 := rfl
@[simp] theorem State.di_mem : (s.di).mem = s.mem := rfl

/-! ### `ei` -/

@[simp] theorem State.ei_a : (s.ei).a = s.a := rfl
@[simp] theorem State.ei_f : (s.ei).f = s.f := rfl
@[simp] theorem State.ei_b : (s.ei).b = s.b := rfl
@[simp] theorem State.ei_c : (s.ei).c = s.c := rfl
@[simp] theorem State.ei_d : (s.ei).d = s.d := rfl
@[simp] theorem State.ei_e : (s.ei).e = s.e := rfl
@[simp] theorem State.ei_h : (s.ei).h = s.h := rfl
@[simp] theorem State.ei_l : (s.ei).l = s.l := rfl
@[simp] theorem State.ei_sp : (s.ei).sp = s.sp := rfl
@[simp] theorem State.ei_pc : (s.ei).pc = s.pc := rfl
@[simp] theorem State.ei_ime : (s.ei).ime = if s.imeSched then true else s.ime := rfl
@[simp] theorem State.ei_imeSched : (s.ei).imeSched = true := rfl
@[simp] theorem State.ei_haltActive : (s.ei).haltActive = s.haltActive := rfl
@[simp] theorem State.ei_haltBug : (s.ei).haltBug = s.haltBug := rfl
@[simp] theorem State.ei_pipe : (s.ei).pipe = s.pipe := rfl
@[simp] theorem State.ei_scratch : (s.ei).scratch = s.scratch := rfl
@[simp] theorem State.ei_key1 : (s.ei).key1 = s.key1 := rfl
@[simp] theorem State.ei_mem : (s.ei).mem = s.mem := rfl

/-! ### `enterDispatch` -/

@[simp] theorem State.enterDispatch_a (k : IrqSource) : (s.enterDispatch k).a = s.a := rfl
@[simp] theorem State.enterDispatch_f (k : IrqSource) : (s.enterDispatch k).f = s.f := rfl
@[simp] theorem State.enterDispatch_b (k : IrqSource) : (s.enterDispatch k).b = s.b := rfl
@[simp] theorem State.enterDispatch_c (k : IrqSource) : (s.enterDispatch k).c = s.c := rfl
@[simp] theorem State.enterDispatch_d (k : IrqSource) : (s.enterDispatch k).d = s.d := rfl
@[simp] theorem State.enterDispatch_e (k : IrqSource) : (s.enterDispatch k).e = s.e := rfl
@[simp] theorem State.enterDispatch_h (k : IrqSource) : (s.enterDispatch k).h = s.h := rfl
@[simp] theorem State.enterDispatch_l (k : IrqSource) : (s.enterDispatch k).l = s.l := rfl
@[simp] theorem State.enterDispatch_sp (k : IrqSource) : (s.enterDispatch k).sp = s.sp := rfl
@[simp] theorem State.enterDispatch_pc (k : IrqSource) : (s.enterDispatch k).pc = s.pc := rfl
@[simp] theorem State.enterDispatch_ime (k : IrqSource) : (s.enterDispatch k).ime = false := rfl
@[simp] theorem State.enterDispatch_imeSched (k : IrqSource) : (s.enterDispatch k).imeSched = false := rfl
@[simp] theorem State.enterDispatch_haltActive (k : IrqSource) : (s.enterDispatch k).haltActive = s.haltActive := rfl
@[simp] theorem State.enterDispatch_haltBug (k : IrqSource) : (s.enterDispatch k).haltBug = s.haltBug := rfl
@[simp] theorem State.enterDispatch_pipe (k : IrqSource) : (s.enterDispatch k).pipe = s.pipe := rfl
@[simp] theorem State.enterDispatch_scratch (k : IrqSource) : (s.enterDispatch k).scratch = s.scratch := rfl
@[simp] theorem State.enterDispatch_key1 (k : IrqSource) : (s.enterDispatch k).key1 = s.key1 := rfl
@[simp] theorem State.enterDispatch_mem (k : IrqSource) : (s.enterDispatch k).mem = memWrite s.mem ifAddr.toNat (s.ifv &&& ~~~(1#8 <<< k.bit)) := rfl

/-! ### `requestInterrupt` -/

@[simp] theorem State.requestInterrupt_a (k : IrqSource) : (s.requestInterrupt k).a = s.a := rfl
@[simp] theorem State.requestInterrupt_f (k : IrqSource) : (s.requestInterrupt k).f = s.f := rfl
@[simp] theorem State.requestInterrupt_b (k : IrqSource) : (s.requestInterrupt k).b = s.b := rfl
@[simp] theorem State.requestInterrupt_c (k : IrqSource) : (s.requestInterrupt k).c = s.c := rfl
@[simp] theorem State.requestInterrupt_d (k : IrqSource) : (s.requestInterrupt k).d = s.d := rfl
@[simp] theorem State.requestInterrupt_e (k : IrqSource) : (s.requestInterrupt k).e = s.e := rfl
@[simp] theorem State.requestInterrupt_h (k : IrqSource) : (s.requestInterrupt k).h = s.h := rfl
@[simp] theorem State.requestInterrupt_l (k : IrqSource) : (s.requestInterrupt k).l = s.l := rfl
@[simp] theorem State.requestInterrupt_sp (k : IrqSource) : (s.requestInterrupt k).sp = s.sp := rfl
@[simp] theorem State.requestInterrupt_pc (k : IrqSource) : (s.requestInterrupt k).pc = s.pc := rfl
@[simp] theorem State.requestInterrupt_ime (k : IrqSource) : (s.requestInterrupt k).ime = s.ime := rfl
@[simp] theorem State.requestInterrupt_imeSched (k : IrqSource) : (s.requestInterrupt k).imeSched = s.imeSched := rfl
@[simp] theorem State.requestInterrupt_haltActive (k : IrqSource) : (s.requestInterrupt k).haltActive = s.haltActive := rfl
@[simp] theorem State.requestInterrupt_haltBug (k : IrqSource) : (s.requestInterrupt k).haltBug = s.haltBug := rfl
@[simp] theorem State.requestInterrupt_pipe (k : IrqSource) : (s.requestInterrupt k).pipe = s.pipe := rfl
@[simp] theorem State.requestInterrupt_scratch (k : IrqSource) : (s.requestInterrupt k).scratch = s.scratch := rfl
@[simp] theorem State.requestInterrupt_key1 (k : IrqSource) : (s.requestInterrupt k).key1 = s.key1 := rfl
@[simp] theorem State.requestInterrupt_mem (k : IrqSource) : (s.requestInterrupt k).mem = memWrite s.mem ifAddr.toNat (s.ifv ||| 1#8 <<< k.bit) := rfl

/-! ### `key1Write` -/

@[simp] theorem State.key1Write_a (v : Byte) : (s.key1Write v).a = s.a := rfl
@[simp] theorem State.key1Write_f (v : Byte) : (s.key1Write v).f = s.f := rfl
@[simp] theorem State.key1Write_b (v : Byte) : (s.key1Write v).b = s.b := rfl
@[simp] theorem State.key1Write_c (v : Byte) : (s.key1Write v).c = s.c := rfl
@[simp] theorem State.key1Write_d (v : Byte) : (s.key1Write v).d = s.d := rfl
@[simp] theorem State.key1Write_e (v : Byte) : (s.key1Write v).e = s.e := rfl
@[simp] theorem State.key1Write_h (v : Byte) : (s.key1Write v).h = s.h := rfl
@[simp] theorem State.key1Write_l (v : Byte) : (s.key1Write v).l = s.l := rfl
@[simp] theorem State.key1Write_sp (v : Byte) : (s.key1Write v).sp = s.sp := rfl
@[simp] theorem State.key1Write_pc (v : Byte) : (s.key1Write v).pc = s.pc := rfl
@[simp] theorem State.key1Write_ime (v : Byte) : (s.key1Write v).ime = s.ime := rfl
@[simp] theorem State.key1Write_imeSched (v : Byte) : (s.key1Write v).imeSched = s.imeSched := rfl
@[simp] theorem State.key1Write_haltActive (v : Byte) : (s.key1Write v).haltActive = s.haltActive := rfl
@[simp] theorem State.key1Write_haltBug (v : Byte) : (s.key1Write v).haltBug = s.haltBug := rfl
@[simp] theorem State.key1Write_pipe (v : Byte) : (s.key1Write v).pipe = s.pipe := rfl
@[simp] theorem State.key1Write_scratch (v : Byte) : (s.key1Write v).scratch = s.scratch := rfl
@[simp] theorem State.key1Write_key1 (v : Byte) : (s.key1Write v).key1 = s.key1.map (·.write v) := rfl
@[simp] theorem State.key1Write_mem (v : Byte) : (s.key1Write v).mem = s.mem := rfl

/-! ### `past` -/

theorem State.past_zero : s.past 0 = s := rfl
theorem State.past_one : s.past 1 = s.pastOpcode := rfl
theorem State.past_two : s.past 2 = s.pastOpcode.pastParam := rfl
theorem State.past_three : s.past 3 = s.pastOpcode.pastParam.pastParam := rfl
theorem State.past_add_two (n : Nat) : s.past (n + 2) = (s.past (n + 1)).pastParam := rfl

@[simp] theorem State.past_a (n : Nat) : (s.past n).a = s.a := by
  induction n with
  | zero => rfl
  | succ n ih => cases n with
    | zero => rfl
    | succ n => rw [State.past_add_two, State.pastParam_a, ih]
@[simp] theorem State.past_f (n : Nat) : (s.past n).f = s.f := by
  induction n with
  | zero => rfl
  | succ n ih => cases n with
    | zero => rfl
    | succ n => rw [State.past_add_two, State.pastParam_f, ih]
@[simp] theorem State.past_b (n : Nat) : (s.past n).b = s.b := by
  induction n with
  | zero => rfl
  | succ n ih => cases n with
    | zero => rfl
    | succ n => rw [State.past_add_two, State.pastParam_b, ih]
@[simp] theorem State.past_c (n : Nat) : (s.past n).c = s.c := by
  induction n with
  | zero => rfl
  | succ n ih => cases n with
    | zero => rfl
    | succ n => rw [State.past_add_two, State.pastParam_c, ih]
@[simp] theorem State.past_d (n : Nat) : (s.past n).d = s.d := by
  induction n with
  | zero => rfl
  | succ n ih => cases n with
    | zero => rfl
    | succ n => rw [State.past_add_two, State.pastParam_d, ih]
@[simp] theorem State.past_e (n : Nat) : (s.past n).e = s.e := by
  induction n with
  | zero => rfl
  | succ n ih => cases n with
    | zero => rfl
    | succ n => rw [State.past_add_two, State.pastParam_e, ih]
@[simp] theorem State.past_h (n : Nat) : (s.past n).h = s.h := by
  induction n with
  | zero => rfl
  | succ n ih => cases n with
    | zero => rfl
    | succ n => rw [State.past_add_two, State.pastParam_h, ih]
@[simp] theorem State.past_l (n : Nat) : (s.past n).l = s.l := by
  induction n with
  | zero => rfl
  | succ n ih => cases n with
    | zero => rfl
    | succ n => rw [State.past_add_two, State.pastParam_l, ih]
@[simp] theorem State.past_sp (n : Nat) : (s.past n).sp = s.sp := by
  induction n with
  | zero => rfl
  | succ n ih => cases n with
    | zero => rfl
    | succ n => rw [State.past_add_two, State.pastParam_sp, ih]
@[simp] theorem State.past_ime (n : Nat) : (s.past n).ime = s.ime := by
  induction n with
  | zero => rfl
  | succ n ih => cases n with
    | zero => rfl
    | succ n => rw [State.past_add_two, State.pastParam_ime, ih]
@[simp] theorem State.past_imeSched (n : Nat) : (s.past n).imeSched = s.imeSched := by
  induction n with
  | zero => rfl
  | succ n ih => cases n with
    | zero => rfl
    | succ n => rw [State.past_add_two, State.pastParam_imeSched, ih]
@[simp] theorem State.past_haltActive (n : Nat) : (s.past n).haltActive = s.haltActive := by
  induction n with
  | zero => rfl
  | succ n ih => cases n with
    | zero => rfl
    | succ n => rw [State.past_add_two, State.pastParam_haltActive, ih]
@[simp] theorem State.past_pipe (n : Nat) : (s.past n).pipe = s.pipe := by
  induction n with
  | zero => rfl
  | succ n ih => cases n with
    | zero => rfl
    | succ n => rw [State.past_add_two, State.pastParam_pipe, ih]
@[simp] theorem State.past_scratch (n : Nat) : (s.past n).scratch = s.scratch := by
  induction n with
  | zero => rfl
  | succ n ih => cases n with
    | zero => rfl
    | succ n => rw [State.past_add_two, State.pastParam_scratch, ih]
@[simp] theorem State.past_key1 (n : Nat) : (s.past n).key1 = s.key1 := by
  induction n with
  | zero => rfl
  | succ n ih => cases n with
    | zero => rfl
    | succ n => rw [State.past_add_two, State.pastParam_key1, ih]
@[simp] theorem State.past_mem (n : Nat) : (s.past n).mem = s.mem := by
  induction n with
  | zero => rfl
  | succ n ih => cases n with
    | zero => rfl
    | succ n => rw [State.past_add_two, State.pastParam_mem, ih]

@[simp] theorem State.past_one_pc : (s.past 1).pc = s.pcAfterOpcode := rfl
@[simp] theorem State.past_two_pc : (s.past 2).pc = s.pcAfterOpcode + 1#16 := rfl
@[simp] theorem State.past_three_pc : (s.past 3).pc = s.pcAfterOpcode + 1#16 + 1#16 := rfl

@[simp] theorem State.past_succ_haltBug (n : Nat) : (s.past (n + 1)).haltBug = false := by
  induction n with
  | zero => rfl
  | succ n ih => rw [State.past_add_two, State.pastParam_haltBug, ih]

@[simp] theorem State.past_one_haltBug : (s.past 1).haltBug = false := rfl
@[simp] theorem State.past_two_haltBug : (s.past 2).haltBug = false := rfl
@[simp] theorem State.past_three_haltBug : (s.past 3).haltBug = false := rfl

/-! ### `setReg`, `setPair`, `setStk` -/

@[simp] theorem State.setReg_a (r : Reg8) (v : Byte) : (s.setReg r v).a = if r = .a then v else s.a := by cases r <;> rfl
@[simp] theorem State.setReg_f (r : Reg8) (v : Byte) : (s.setReg r v).f = s.f := by cases r <;> rfl
@[simp] theorem State.setReg_b (r : Reg8) (v : Byte) : (s.setReg r v).b = if r = .b then v else s.b := by cases r <;> rfl
@[simp] theorem State.setReg_c (r : Reg8) (v : Byte) : (s.setReg r v).c = if r = .c then v else s.c := by cases r <;> rfl
@[simp] theorem State.setReg_d (r : Reg8) (v : Byte) : (s.setReg r v).d = if r = .d then v else s.d := by cases r <;> rfl
@[simp] theorem State.setReg_e (r : Reg8) (v : Byte) : (s.setReg r v).e = if r = .e then v else s.e := by cases r <;> rfl
@[simp] theorem State.setReg_h (r : Reg8) (v : Byte) : (s.setReg r v).h = if r = .h then v else s.h := by cases r <;> rfl
@[simp] theorem State.setReg_l (r : Reg8) (v : Byte) : (s.setReg r v).l = if r = .l then v else s.l := by cases r <;> rfl
@[simp] theorem State.setReg_sp (r : Reg8) (v : Byte) : (s.setReg r v).sp = s.sp := by cases r <;> rfl
@[simp] theorem State.setReg_pc (r : Reg8) (v : Byte) : (s.setReg r v).pc = s.pc := by cases r <;> rfl
@[simp] theorem State.setReg_ime (r : Reg8) (v : Byte) : (s.setReg r v).ime = s.ime := by cases r <;> rfl
@[simp] theorem State.setReg_imeSched (r : Reg8) (v : Byte) : (s.setReg r v).imeSched = s.imeSched := by cases r <;> rfl
@[simp] theorem State.setReg_haltActive (r : Reg8) (v : Byte) : (s.setReg r v).haltActive = s.haltActive := by cases r <;> rfl
@[simp] theorem State.setReg_haltBug (r : Reg8) (v : Byte) : (s.setReg r v).haltBug = s.haltBug := by cases r <;> rfl
@[simp] theorem State.setReg_pipe (r : Reg8) (v : Byte) : (s.setReg r v).pipe = s.pipe := by cases r <;> rfl
@[simp] theorem State.setReg_scratch (r : Reg8) (v : Byte) : (s.setReg r v).scratch = s.scratch := by cases r <;> rfl
@[simp] theorem State.setReg_key1 (r : Reg8) (v : Byte) : (s.setReg r v).key1 = s.key1 := by cases r <;> rfl
@[simp] theorem State.setReg_mem (r : Reg8) (v : Byte) : (s.setReg r v).mem = s.mem := by cases r <;> rfl

@[simp] theorem State.setPair_a (p : Pair16) (w : Word) : (s.setPair p w).a = s.a := by cases p <;> rfl
@[simp] theorem State.setPair_f (p : Pair16) (w : Word) : (s.setPair p w).f = s.f := by cases p <;> rfl
@[simp] theorem State.setPair_b (p : Pair16) (w : Word) : (s.setPair p w).b = if p = .bc then hiByte w else s.b := by cases p <;> rfl
@[simp] theorem State.setPair_c (p : Pair16) (w : Word) : (s.setPair p w).c = if p = .bc then loByte w else s.c := by cases p <;> rfl
@[simp] theorem State.setPair_d (p : Pair16) (w : Word) : (s.setPair p w).d = if p = .de then hiByte w else s.d := by cases p <;> rfl
@[simp] theorem State.setPair_e (p : Pair16) (w : Word) : (s.setPair p w).e = if p = .de then loByte w else s.e := by cases p <;> rfl
@[simp] theorem State.setPair_h (p : Pair16) (w : Word) : (s.setPair p w).h = if p = .hl then hiByte w else s.h := by cases p <;> rfl
@[simp] theorem State.setPair_l (p : Pair16) (w : Word) : (s.setPair p w).l = if p = .hl then loByte w else s.l := by cases p <;> rfl
@[simp] theorem State.setPair_sp (p : Pair16) (w : Word) : (s.setPair p w).sp = if p = .sp then w else s.sp := by cases p <;> rfl
@[simp] theorem State.setPair_pc (p : Pair16) (w : Word) : (s.setPair p w).pc = s.pc := by cases p <;> rfl
@[simp] theorem State.setPair_ime (p : Pair16) (w : Word) : (s.setPair p w).ime = s.ime := by cases p <;> rfl
@[simp] theorem State.setPair_imeSched (p : Pair16) (w : Word) : (s.setPair p w).imeSched = s.imeSched := by cases p <;> rfl
@[simp] theorem State.setPair_haltActive (p : Pair16) (w : Word) : (s.setPair p w).haltActive = s.haltActive := by cases p <;> rfl
@[simp] theorem State.setPair_haltBug (p : Pair16) (w : Word) : (s.setPair p w).haltBug = s.haltBug := by cases p <;> rfl
@[simp] theorem State.setPair_pipe (p : Pair16) (w : Word) : (s.setPair p w).pipe = s.pipe := by cases p <;> rfl
@[simp] theorem State.setPair_scratch (p : Pair16) (w : Word) : (s.setPair p w).scratch = s.scratch := by cases p <;> rfl
@[simp] theorem State.setPair_key1 (p : Pair16) (w : Word) : (s.setPair p w).key1 = s.key1 := by cases p <;> rfl
@[simp] theorem State.setPair_mem (p : Pair16) (w : Word) : (s.setPair p w).mem = s.mem := by cases p <;> rfl

@[simp] theorem State.setStk_a (q : StkPair) (w : Word) : (s.setStk q w).a = if q = .af then hiByte w else s.a := by cases q <;> rfl
@[simp] theorem State.setStk_f (q : StkPair) (w : Word) : (s.setStk q w).f = if q = .af then loByte w &&& 0xF0#8 else s.f := by cases q <;> rfl
@[simp] theorem State.setStk_b (q : StkPair) (w : Word) : (s.setStk q w).b = if q = .bc then hiByte w else s.b := by cases q <;> rfl
@[simp] theorem State.setStk_c (q : StkPair) (w : Word) : (s.setStk q w).c = if q = .bc then loByte w else s.c := by cases q <;> rfl
@[simp] theorem State.setStk_d (q : StkPair) (w : Word) : (s.setStk q w).d = if q = .de then hiByte w else s.d := by cases q <;> rfl
@[simp] theorem State.setStk_e (q : StkPair) (w : Word) : (s.setStk q w).e = if q = .de then loByte w else s.e := by cases q <;> rfl
@[simp] theorem State.setStk_h (q : StkPair) (w : Word) : (s.setStk q w).h = if q = .hl then hiByte w else s.h := by cases q <;> rfl
@[simp] theorem State.setStk_l (q : StkPair) (w : Word) : (s.setStk q w).l = if q = .hl then loByte w else s.l := by cases q <;> rfl
@[simp] theorem State.setStk_sp (q : StkPair) (w : Word) : (s.setStk q w).sp = s.sp := by cases q <;> rfl
@[simp] theorem State.setStk_pc (q : StkPair) (w : Word) : (s.setStk q w).pc = s.pc := by cases q <;> rfl
@[simp] theorem State.setStk_ime (q : StkPair) (w : Word) : (s.setStk q w).ime = s.ime := by cases q <;> rfl
@[simp] theorem State.setStk_imeSched (q : StkPair) (w : Word) : (s.setStk q w).imeSched = s.imeSched := by cases q <;> rfl
@[simp] theorem State.setStk_haltActive (q : StkPair) (w : Word) : (s.setStk q w).haltActive = s.haltActive := by cases q <;> rfl
@[simp] theorem State.setStk_haltBug (q : StkPair) (w : Word) : (s.setStk q w).haltBug = s.haltBug := by cases q <;> rfl
@[simp] theorem State.setStk_pipe (q : StkPair) (w : Word) : (s.setStk q w).pipe = s.pipe := by cases q <;> rfl
@[simp] theorem State.setStk_scratch (q : StkPair) (w : Word) : (s.setStk q w).scratch = s.scratch := by cases q <;> rfl
@[simp] theorem State.setStk_key1 (q : StkPair) (w : Word) : (s.setStk q w).key1 = s.key1 := by cases q <;> rfl
@[simp] theorem State.setStk_mem (q : StkPair) (w : Word) : (s.setStk q w).mem = s.mem := by cases q <;> rfl

/-! ### The words of the stack -/

@[simp] theorem State.pushWord_a (w : Word) : (s.pushWord w).a = s.a := rfl
@[simp] theorem State.pushWord_f (w : Word) : (s.pushWord w).f = s.f := rfl
@[simp] theorem State.pushWord_b (w : Word) : (s.pushWord w).b = s.b := rfl
@[simp] theorem State.pushWord_c (w : Word) : (s.pushWord w).c = s.c := rfl
@[simp] theorem State.pushWord_d (w : Word) : (s.pushWord w).d = s.d := rfl
@[simp] theorem State.pushWord_e (w : Word) : (s.pushWord w).e = s.e := rfl
@[simp] theorem State.pushWord_h (w : Word) : (s.pushWord w).h = s.h := rfl
@[simp] theorem State.pushWord_l (w : Word) : (s.pushWord w).l = s.l := rfl
@[simp] theorem State.pushWord_pc (w : Word) : (s.pushWord w).pc = s.pc := rfl
@[simp] theorem State.pushWord_ime (w : Word) : (s.pushWord w).ime = s.ime := rfl
@[simp] theorem State.pushWord_imeSched (w : Word) : (s.pushWord w).imeSched = s.imeSched := rfl
@[simp] theorem State.pushWord_haltActive (w : Word) : (s.pushWord w).haltActive = s.haltActive := rfl
@[simp] theorem State.pushWord_haltBug (w : Word) : (s.pushWord w).haltBug = s.haltBug := rfl
@[simp] theorem State.pushWord_pipe (w : Word) : (s.pushWord w).pipe = s.pipe := rfl
@[simp] theorem State.pushWord_scratch (w : Word) : (s.pushWord w).scratch = s.scratch := rfl
@[simp] theorem State.pushWord_sp (w : Word) : (s.pushWord w).sp = s.sp - 1#16 - 1#16 := rfl

@[simp] theorem State.dropWord_a : s.dropWord.a = s.a := rfl
@[simp] theorem State.dropWord_f : s.dropWord.f = s.f := rfl
@[simp] theorem State.dropWord_b : s.dropWord.b = s.b := rfl
@[simp] theorem State.dropWord_c : s.dropWord.c = s.c := rfl
@[simp] theorem State.dropWord_d : s.dropWord.d = s.d := rfl
@[simp] theorem State.dropWord_e : s.dropWord.e = s.e := rfl
@[simp] theorem State.dropWord_h : s.dropWord.h = s.h := rfl
@[simp] theorem State.dropWord_l : s.dropWord.l = s.l := rfl
@[simp] theorem State.dropWord_pc : s.dropWord.pc = s.pc := rfl
@[simp] theorem State.dropWord_ime : s.dropWord.ime = s.ime := rfl
@[simp] theorem State.dropWord_imeSched : s.dropWord.imeSched = s.imeSched := rfl
@[simp] theorem State.dropWord_haltActive : s.dropWord.haltActive = s.haltActive := rfl
@[simp] theorem State.dropWord_haltBug : s.dropWord.haltBug = s.haltBug := rfl
@[simp] theorem State.dropWord_pipe : s.dropWord.pipe = s.pipe := rfl
@[simp] theorem State.dropWord_scratch : s.dropWord.scratch = s.scratch := rfl
@[simp] theorem State.dropWord_key1 : s.dropWord.key1 = s.key1 := rfl
@[simp] theorem State.dropWord_mem : s.dropWord.mem = s.mem := rfl
@[simp] theorem State.dropWord_sp : s.dropWord.sp = s.sp + 1#16 + 1#16 := rfl

@[simp] theorem State.returnTo_a (k : Bool) : (s.returnTo k).a = s.a := rfl
@[simp] theorem State.returnTo_f (k : Bool) : (s.returnTo k).f = s.f := rfl
@[simp] theorem State.returnTo_b (k : Bool) : (s.returnTo k).b = s.b := rfl
@[simp] theorem State.returnTo_c (k : Bool) : (s.returnTo k).c = s.c := rfl
@[simp] theorem State.returnTo_d (k : Bool) : (s.returnTo k).d = s.d := rfl
@[simp] theorem State.returnTo_e (k : Bool) : (s.returnTo k).e = s.e := rfl
@[simp] theorem State.returnTo_h (k : Bool) : (s.returnTo k).h = s.h := rfl
@[simp] theorem State.returnTo_l (k : Bool) : (s.returnTo k).l = s.l := rfl
@[simp] theorem State.returnTo_imeSched (k : Bool) : (s.returnTo k).imeSched = s.imeSched := rfl
@[simp] theorem State.returnTo_haltActive (k : Bool) : (s.returnTo k).haltActive = s.haltActive := rfl
@[simp] theorem State.returnTo_haltBug (k : Bool) : (s.returnTo k).haltBug = s.haltBug := rfl
@[simp] theorem State.returnTo_pipe (k : Bool) : (s.returnTo k).pipe = s.pipe := rfl
@[simp] theorem State.returnTo_scratch (k : Bool) : (s.returnTo k).scratch = s.scratch := rfl
@[simp] theorem State.returnTo_key1 (k : Bool) : (s.returnTo k).key1 = s.key1 := rfl
@[simp] theorem State.returnTo_mem (k : Bool) : (s.returnTo k).mem = s.mem := rfl
@[simp] theorem State.returnTo_sp (k : Bool) : (s.returnTo k).sp = s.sp + 1#16 + 1#16 := rfl
@[simp] theorem State.returnTo_pc (k : Bool) : (s.returnTo k).pc = s.topWord := rfl
@[simp] theorem State.returnTo_ime (k : Bool) : (s.returnTo k).ime = if k then true else s.ime := rfl

@[simp] theorem State.call_a (x : Word) : (s.call x).a = s.a := rfl
@[simp] theorem State.call_f (x : Word) : (s.call x).f = s.f := rfl
@[simp] theorem State.call_b (x : Word) : (s.call x).b = s.b := rfl
@[simp] theorem State.call_c (x : Word) : (s.call x).c = s.c := rfl
@[simp] theorem State.call_d (x : Word) : (s.call x).d = s.d := rfl
@[simp] theorem State.call_e (x : Word) : (s.call x).e = s.e := rfl
@[simp] theorem State.call_h (x : Word) : (s.call x).h = s.h := rfl
@[simp] theorem State.call_l (x : Word) : (s.call x).l = s.l := rfl
@[simp] theorem State.call_ime (x : Word) : (s.call x).ime = s.ime := rfl
@[simp] theorem State.call_imeSched (x : Word) : (s.call x).imeSched = s.imeSched := rfl
@[simp] theorem State.call_haltActive (x : Word) : (s.call x).haltActive = s.haltActive := rfl
@[simp] theorem State.call_haltBug (x : Word) : (s.call x).haltBug = s.haltBug := rfl
@[simp] theorem State.call_pipe (x : Word) : (s.call x).pipe = s.pipe := rfl
@[simp] theorem State.call_scratch (x : Word) : (s.call x).scratch = s.scratch := rfl
@[simp] theorem State.call_sp (x : Word) : (s.call x).sp = s.sp - 1#16 - 1#16 := rfl
@[simp] theorem State.call_pc (x : Word) : (s.call x).pc = x := rfl
@[simp] theorem State.call_key1 (x : Word) : (s.call x).key1 = (s.pushWord s.pc).key1 := rfl
@[simp] theorem State.call_mem (x : Word) : (s.call x).mem = (s.pushWord s.pc).mem := rfl

/-! ### Which updates leave the bus as it is -/

/-- A read depends on the bytes behind the bus and on KEY1, on nothing else. -/
theorem State.read_congr (t : State) (hk : t.key1 = s.key1) (hm : t.mem = s.mem) (x : Word) : t.read x = s.read x := by
  simp only [State.read, hk, hm]

theorem State.isKey1_congr (t : State) (hk : t.key1 = s.key1) (x : Word) : t.isKey1 x = s.isKey1 x := by
  simp only [State.isKey1, hk]

theorem State.pend_congr (t : State) (hk : t.key1 = s.key1) (hm : t.mem = s.mem) : t.pend = s.pend := by
  simp only [State.pend, State.ifv, State.iev, s.read_congr t hk hm]

@[simp] theorem State.setFlags_read (t : FlagTuple) (x : Word) : (s.setFlags t).read x = s.read x := s.read_congr _ (by simp) (by simp) x
@[simp] theorem State.dropByte_read (x : Word) : (s.dropByte).read x = s.read x := s.read_congr _ (by simp) (by simp) x
@[simp] theorem State.dropWord_read (x : Word) : (s.dropWord).read x = s.read x := s.read_congr _ (by simp) (by simp) x
@[simp] theorem State.pastOpcode_read (x : Word) : (s.pastOpcode).read x = s.read x := s.read_congr _ (by simp) (by simp) x
@[simp] theorem State.pastParam_read (x : Word) : (s.pastParam).read x = s.read x := s.read_congr _ (by simp) (by simp) x
@[simp] theorem State.past_read (n : Nat) (x : Word) : (s.past n).read x = s.read x := s.read_congr _ (by simp) (by simp) x
@[simp] theorem State.jump_read (y : Word) (x : Word) : (s.jump y).read x = s.read x := s.read_congr _ (by simp) (by simp) x
@[simp] theorem State.retire_read (k : Bool) (x : Word) : (s.retire k).read x = s.read x := s.read_congr _ (by simp) (by simp) x
@[simp] theorem State.woken_read (x : Word) : (s.woken).read x = s.read x := s.read_congr _ (by simp) (by simp) x
@[simp] theorem State.halt_read (x : Word) : (s.halt).read x = s.read x := s.read_congr _ (by simp) (by simp) x
@[simp] theorem State.di_read (x : Word) : (s.di).read x = s.read x := s.read_congr _ (by simp) (by simp) x
@[simp] theorem State.ei_read (x : Word) : (s.ei).read x = s.read x := s.read_congr _ (by simp) (by simp) x
@[simp] theorem State.setReg_read (r : Reg8) (v : Byte) (x : Word) : (s.setReg r v).read x = s.read x := s.read_congr _ (by simp) (by simp) x
@[simp] theorem State.setPair_read (p : Pair16) (w : Word) (x : Word) : (s.setPair p w).read x = s.read x := s.read_congr _ (by simp) (by simp) x
@[simp] theorem State.setStk_read (q : StkPair) (w : Word) (x : Word) : (s.setStk q w).read x = s.read x := s.read_congr _ (by simp) (by simp) x
@[simp] theorem State.returnTo_read (k : Bool) (x : Word) : (s.returnTo k).read x = s.read x := s.read_congr _ (by simp) (by simp) x
@[simp] theorem State.setFlags_isKey1 (t : FlagTuple) (x : Word) : (s.setFlags t).isKey1 x = s.isKey1 x := s.isKey1_congr _ (by simp) x
@[simp] theorem State.dropByte_isKey1 (x : Word) : (s.dropByte).isKey1 x = s.isKey1 x := s.isKey1_congr _ (by simp) x
@[simp] theorem State.dropWord_isKey1 (x : Word) : (s.dropWord).isKey1 x = s.isKey1 x := s.isKey1_congr _ (by simp) x
@[simp] theorem State.pastOpcode_isKey1 (x : Word) : (s.pastOpcode).isKey1 x = s.isKey1 x := s.isKey1_congr _ (by simp) x
@[simp] theorem State.pastParam_isKey1 (x : Word) : (s.pastParam).isKey1 x = s.isKey1 x := s.isKey1_congr _ (by simp) x
@[simp] theorem State.past_isKey1 (n : Nat) (x : Word) : (s.past n).isKey1 x = s.isKey1 x := s.isKey1_congr _ (by simp) x
@[simp] theorem State.jump_isKey1 (y : Word) (x : Word) : (s.jump y).isKey1 x = s.isKey1 x := s.isKey1_congr _ (by simp) x
@[simp] theorem State.retire_isKey1 (k : Bool) (x : Word) : (s.retire k).isKey1 x = s.isKey1 x := s.isKey1_congr _ (by simp) x
@[simp] theorem State.woken_isKey1 (x : Word) : (s.woken).isKey1 x = s.isKey1 x := s.isKey1_congr _ (by simp) x
@[simp] theorem State.halt_isKey1 (x : Word) : (s.halt).isKey1 x = s.isKey1 x := s.isKey1_congr _ (by simp) x
@[simp] theorem State.di_isKey1 (x : Word) : (s.di).isKey1 x = s.isKey1 x := s.isKey1_congr _ (by simp) x
@[simp] theorem State.ei_isKey1 (x : Word) : (s.ei).isKey1 x = s.isKey1 x := s.isKey1_congr _ (by simp) x
@[simp] theorem State.setReg_isKey1 (r : Reg8) (v : Byte) (x : Word) : (s.setReg r v).isKey1 x = s.isKey1 x := s.isKey1_congr _ (by simp) x
@[simp] theorem State.setPair_isKey1 (p : Pair16) (w : Word) (x : Word) : (s.setPair p w).isKey1 x = s.isKey1 x := s.isKey1_congr _ (by simp) x
@[simp] theorem State.setStk_isKey1 (q : StkPair) (w : Word) (x : Word) : (s.setStk q w).isKey1 x = s.isKey1 x := s.isKey1_congr _ (by simp) x
@[simp] theorem State.returnTo_isKey1 (k : Bool) (x : Word) : (s.returnTo k).isKey1 x = s.isKey1 x := s.isKey1_congr _ (by simp) x
@[simp] theorem State.setFlags_pend (t : FlagTuple) : (s.setFlags t).pend = s.pend := s.pend_congr _ (by simp) (by simp)
@[simp] theorem State.dropByte_pend : (s.dropByte).pend = s.pend := s.pend_congr _ (by simp) (by simp)
@[simp] theorem State.dropWord_pend : (s.dropWord).pend = s.pend := s.pend_congr _ (by simp) (by simp)
@[simp] theorem State.pastOpcode_pend : (s.pastOpcode).pend = s.pend := s.pend_congr _ (by simp) (by simp)
@[simp] theorem State.pastParam_pend : (s.pastParam).pend = s.pend := s.pend_congr _ (by simp) (by simp)
@[simp] theorem State.past_pend (n : Nat) : (s.past n).pend = s.pend := s.pend_congr _ (by simp) (by simp)
@[simp] theorem State.jump_pend (y : Word) : (s.jump y).pend = s.pend := s.pend_congr _ (by simp) (by simp)
@[simp] theorem State.retire_pend (k : Bool) : (s.retire k).pend = s.pend := s.pend_congr _ (by simp) (by simp)
@[simp] theorem State.woken_pend : (s.woken).pend = s.pend := s.pend_congr _ (by simp) (by simp)
@[simp] theorem State.halt_pend : (s.halt).pend = s.pend := s.pend_congr _ (by simp) (by simp)
@[simp] theorem State.di_pend : (s.di).pend = s.pend := s.pend_congr _ (by simp) (by simp)
@[simp] theorem State.ei_pend : (s.ei).pend = s.pend := s.pend_congr _ (by simp) (by simp)
@[simp] theorem State.setReg_pend (r : Reg8) (v : Byte) : (s.setReg r v).pend = s.pend := s.pend_congr _ (by simp) (by simp)
@[simp] theorem State.setPair_pend (p : Pair16) (w : Word) : (s.setPair p w).pend = s.pend := s.pend_congr _ (by simp) (by simp)
@[simp] theorem State.setStk_pend (q : StkPair) (w : Word) : (s.setStk q w).pend = s.pend := s.pend_congr _ (by simp) (by simp)
@[simp] theorem State.returnTo_pend (k : Bool) : (s.returnTo k).pend = s.pend := s.pend_congr _ (by simp) (by simp)

/-! ### The 8-bit registers after an update -/

@[simp] theorem State.setReg_reg (r r' : Reg8) (v : Byte) : (s.setReg r v).reg r' = if r' = r then v else s.reg r' := by
  cases r <;> cases r' <;> rfl

@[simp] theorem State.setPair_reg (p : Pair16) (w : Word) (r : Reg8) :
    (s.setPair p w).reg r =
      match p, r with
      | .bc, .b => hiByte w
      | .bc, .c => loByte w
      | .de, .d => hiByte w
      | .de, .e => loByte w
      | .hl, .h => hiByte w
      | .hl, .l => loByte w
      | _, r => s.reg r := by
  cases p <;> cases r <;> rfl

/-- A state with the same eight registers reads every 8-bit register alike. -/
theorem State.reg_congr (t : State) (hb : t.b = s.b) (hc : t.c = s.c) (hd : t.d = s.d) (he : t.e = s.e) (hh : t.h = s.h)
    (hl : t.l = s.l) (ha : t.a = s.a) (r : Reg8) : t.reg r = s.reg r := by
  cases r <;> assumption

@[simp] theorem State.setFlags_reg (t : FlagTuple) (r : Reg8) : (s.setFlags t).reg r = s.reg r := by cases r <;> simp [State.reg]
@[simp] theorem State.dropByte_reg (r : Reg8) : (s.dropByte).reg r = s.reg r := by cases r <;> simp [State.reg]
@[simp] theorem State.dropWord_reg (r : Reg8) : (s.dropWord).reg r = s.reg r := by cases r <;> simp [State.reg]
@[simp] theorem State.pastOpcode_reg (r : Reg8) : (s.pastOpcode).reg r = s.reg r := by cases r <;> simp [State.reg]
@[simp] theorem State.pastParam_reg (r : Reg8) : (s.pastParam).reg r = s.reg r := by cases r <;> simp [State.reg]
@[simp] theorem State.past_reg (n : Nat) (r : Reg8) : (s.past n).reg r = s.reg r := by cases r <;> simp [State.reg]
@[simp] theorem State.jump_reg (y : Word) (r : Reg8) : (s.jump y).reg r = s.reg r := by cases r <;> simp [State.reg]
@[simp] theorem State.retire_reg (k : Bool) (r : Reg8) : (s.retire k).reg r = s.reg r := by cases r <;> simp [State.reg]
@[simp] theorem State.woken_reg (r : Reg8) : (s.woken).reg r = s.reg r := by cases r <;> simp [State.reg]
@[simp] theorem State.halt_reg (r : Reg8) : (s.halt).reg r = s.reg r := by cases r <;> simp [State.reg]
@[simp] theorem State.di_reg (r : Reg8) : (s.di).reg r = s.reg r := by cases r <;> simp [State.reg]
@[simp] theorem State.ei_reg (r : Reg8) : (s.ei).reg r = s.reg r := by cases r <;> simp [State.reg]
@[simp] theorem State.returnTo_reg (k : Bool) (r : Reg8) : (s.returnTo k).reg r = s.reg r := by cases r <;> simp [State.reg]
@[simp] theorem State.write_reg (x : Word) (v : Byte) (r : Reg8) : (s.write x v).reg r = s.reg r := by cases r <;> simp [State.reg]
@[simp] theorem State.pushByte_reg (v : Byte) (r : Reg8) : (s.pushByte v).reg r = s.reg r := by cases r <;> simp [State.reg]
@[simp] theorem State.pushWord_reg (w : Word) (r : Reg8) : (s.pushWord w).reg r = s.reg r := by cases r <;> simp [State.reg]
@[simp] theorem State.call_reg (x : Word) (r : Reg8) : (s.call x).reg r = s.reg r := by cases r <;> simp [State.reg]
@[simp] theorem State.enterDispatch_reg (k : IrqSource) (r : Reg8) : (s.enterDispatch k).reg r = s.reg r := by cases r <;> simp [State.reg]
@[simp] theorem State.stop_reg (r : Reg8) : (s.stop).reg r = s.reg r := by cases r <;> simp [State.reg]

@[simp] theorem State.setFlags_hl (t : FlagTuple) : (s.setFlags t).hl = s.hl := by simp [State.hl]
@[simp] theorem State.dropByte_hl : (s.dropByte).hl = s.hl := by simp [State.hl]
@[simp] theorem State.dropWord_hl : (s.dropWord).hl = s.hl := by simp [State.hl]
@[simp] theorem State.pastOpcode_hl : (s.pastOpcode).hl = s.hl := by simp [State.hl]
@[simp] theorem State.pastParam_hl : (s.pastParam).hl = s.hl := by simp [State.hl]
@[simp] theorem State.past_hl (n : Nat) : (s.past n).hl = s.hl := by simp [State.hl]
@[simp] theorem State.jump_hl (y : Word) : (s.jump y).hl = s.hl := by simp [State.hl]
@[simp] theorem State.retire_hl (k : Bool) : (s.retire k).hl = s.hl := by simp [State.hl]
@[simp] theorem State.woken_hl : (s.woken).hl = s.hl := by simp [State.hl]
@[simp] theorem State.halt_hl : (s.halt).hl = s.hl := by simp [State.hl]
@[simp] theorem State.di_hl : (s.di).hl = s.hl := by simp [State.hl]
@[simp] theorem State.ei_hl : (s.ei).hl = s.hl := by simp [State.hl]
@[simp] theorem State.returnTo_hl (k : Bool) : (s.returnTo k).hl = s.hl := by simp [State.hl]
@[simp] theorem State.write_hl (x : Word) (v : Byte) : (s.write x v).hl = s.hl := by simp [State.hl]
@[simp] theorem State.pushByte_hl (v : Byte) : (s.pushByte v).hl = s.hl := by simp [State.hl]
@[simp] theorem State.pushWord_hl (w : Word) : (s.pushWord w).hl = s.hl := by simp [State.hl]
@[simp] theorem State.call_hl (x : Word) : (s.call x).hl = s.hl := by simp [State.hl]
@[simp] theorem State.enterDispatch_hl (k : IrqSource) : (s.enterDispatch k).hl = s.hl := by simp [State.hl]
@[simp] theorem State.stop_hl : (s.stop).hl = s.hl := by simp [State.hl]

@[simp] theorem State.dropByte_fZ : (s.dropByte).fZ = s.fZ := by simp [State.fZ]
@[simp] theorem State.dropWord_fZ : (s.dropWord).fZ = s.fZ := by simp [State.fZ]
@[simp] theorem State.pastOpcode_fZ : (s.pastOpcode).fZ = s.fZ := by simp [State.fZ]
@[simp] theorem State.pastParam_fZ : (s.pastParam).fZ = s.fZ := by simp [State.fZ]
@[simp] theorem State.past_fZ (n : Nat) : (s.past n).fZ = s.fZ := by simp [State.fZ]
@[simp] theorem State.jump_fZ (y : Word) : (s.jump y).fZ = s.fZ := by simp [State.fZ]
@[simp] theorem State.retire_fZ (k : Bool) : (s.retire k).fZ = s.fZ := by simp [State.fZ]
@[simp] theorem State.woken_fZ : (s.woken).fZ = s.fZ := by simp [State.fZ]
@[simp] theorem State.halt_fZ : (s.halt).fZ = s.fZ := by simp [State.fZ]
@[simp] theorem State.di_fZ : (s.di).fZ = s.fZ := by simp [State.fZ]
@[simp] theorem State.ei_fZ : (s.ei).fZ = s.fZ := by simp [State.fZ]
@[simp] theorem State.returnTo_fZ (k : Bool) : (s.returnTo k).fZ = s.fZ := by simp [State.fZ]
@[simp] theorem State.write_fZ (x : Word) (v : Byte) : (s.write x v).fZ = s.fZ := by simp [State.fZ]
@[simp] theorem State.pushByte_fZ (v : Byte) : (s.pushByte v).fZ = s.fZ := by simp [State.fZ]
@[simp] theorem State.pushWord_fZ (w : Word) : (s.pushWord w).fZ = s.fZ := by simp [State.fZ]
@[simp] theorem State.call_fZ (x : Word) : (s.call x).fZ = s.fZ := by simp [State.fZ]
@[simp] theorem State.enterDispatch_fZ (k : IrqSource) : (s.enterDispatch k).fZ = s.fZ := by simp [State.fZ]
@[simp] theorem State.stop_fZ : (s.stop).fZ = s.fZ := by simp [State.fZ]
@[simp] theorem State.setReg_fZ (r : Reg8) (v : Byte) : (s.setReg r v).fZ = s.fZ := by simp [State.fZ]
@[simp] theorem State.setPair_fZ (p : Pair16) (w : Word) : (s.setPair p w).fZ = s.fZ := by simp [State.fZ]
@[simp] theorem State.dropByte_fN : (s.dropByte).fN = s.fN := by simp [State.fN]
@[simp] theorem State.dropWord_fN : (s.dropWord).fN = s.fN := by simp [State.fN]
@[simp] theorem State.pastOpcode_fN : (s.pastOpcode).fN = s.fN := by simp [State.fN]
@[simp] theorem State.pastParam_fN : (s.pastParam).fN = s.fN := by simp [State.fN]
@[simp] theorem State.past_fN (n : Nat) : (s.past n).fN = s.fN := by simp [State.fN]
@[simp] theorem State.jump_fN (y : Word) : (s.jump y).fN = s.fN := by simp [State.fN]
@[simp] theorem State.retire_fN (k : Bool) : (s.retire k).fN = s.fN := by simp [State.fN]
@[simp] theorem State.woken_fN : (s.woken).fN = s.fN := by simp [State.fN]
@[simp] theorem State.halt_fN : (s.halt).fN = s.fN := by simp [State.fN]
@[simp] theorem State.di_fN : (s.di).fN = s.fN := by simp [State.fN]
@[simp] theorem State.ei_fN : (s.ei).fN = s.fN := by simp [State.fN]
@[simp] theorem State.returnTo_fN (k : Bool) : (s.returnTo k).fN = s.fN := by simp [State.fN]
@[simp] theorem State.write_fN (x : Word) (v : Byte) : (s.write x v).fN = s.fN := by simp [State.fN]
@[simp] theorem State.pushByte_fN (v : Byte) : (s.pushByte v).fN = s.fN := by simp [State.fN]
@[simp] theorem State.pushWord_fN (w : Word) : (s.pushWord w).fN = s.fN := by simp [State.fN]
@[simp] theorem State.call_fN (x : Word) : (s.call x).fN = s.fN := by simp [State.fN]
@[simp] theorem State.enterDispatch_fN (k : IrqSource) : (s.enterDispatch k).fN = s.fN := by simp [State.fN]
@[simp] theorem State.stop_fN : (s.stop).fN = s.fN := by simp [State.fN]
@[simp] theorem State.setReg_fN (r : Reg8) (v : Byte) : (s.setReg r v).fN = s.fN := by simp [State.fN]
@[simp] theorem State.setPair_fN (p : Pair16) (w : Word) : (s.setPair p w).fN = s.fN := by simp [State.fN]
@[simp] theorem State.dropByte_fH : (s.dropByte).fH = s.fH := by simp [State.fH]
@[simp] theorem State.dropWord_fH : (s.dropWord).fH = s.fH := by simp [State.fH]
@[simp] theorem State.pastOpcode_fH : (s.pastOpcode).fH = s.fH := by simp [State.fH]
@[simp] theorem State.pastParam_fH : (s.pastParam).fH = s.fH := by simp [State.fH]
@[simp] theorem State.past_fH (n : Nat) : (s.past n).fH = s.fH := by simp [State.fH]
@[simp] theorem State.jump_fH (y : Word) : (s.jump y).fH = s.fH := by simp [State.fH]
@[simp] theorem State.retire_fH (k : Bool) : (s.retire k).fH = s.fH := by simp [State.fH]
@[simp] theorem State.woken_fH : (s.woken).fH = s.fH := by simp [State.fH]
@[simp] theorem State.halt_fH : (s.halt).fH = s.fH := by simp [State.fH]
@[simp] theorem State.di_fH : (s.di).fH = s.fH := by simp [State.fH]
@[simp] theorem State.ei_fH : (s.ei).fH = s.fH := by simp [State.fH]
@[simp] theorem State.returnTo_fH (k : Bool) : (s.returnTo k).fH = s.fH := by simp [State.fH]
@[simp] theorem State.write_fH (x : Word) (v : Byte) : (s.write x v).fH = s.fH := by simp [State.fH]
@[simp] theorem State.pushByte_fH (v : Byte) : (s.pushByte v).fH = s.fH := by simp [State.fH]
@[simp] theorem State.pushWord_fH (w : Word) : (s.pushWord w).fH = s.fH := by simp [State.fH]
@[simp] theorem State.call_fH (x : Word) : (s.call x).fH = s.fH := by simp [State.fH]
@[simp] theorem State.enterDispatch_fH (k : IrqSource) : (s.enterDispatch k).fH = s.fH := by simp [State.fH]
@[simp] theorem State.stop_fH : (s.stop).fH = s.fH := by simp [State.fH]
@[simp] theorem State.setReg_fH (r : Reg8) (v : Byte) : (s.setReg r v).fH = s.fH := by simp [State.fH]
@[simp] theorem State.setPair_fH (p : Pair16) (w : Word) : (s.setPair p w).fH = s.fH := by simp [State.fH]
@[simp] theorem State.dropByte_fC : (s.dropByte).fC = s.fC := by simp [State.fC]
@[simp] theorem State.dropWord_fC : (s.dropWord).fC = s.fC := by simp [State.fC]
@[simp] theorem State.pastOpcode_fC : (s.pastOpcode).fC = s.fC := by simp [State.fC]
@[simp] theorem State.pastParam_fC : (s.pastParam).fC = s.fC := by simp [State.fC]
@[simp] theorem State.past_fC (n : Nat) : (s.past n).fC = s.fC := by simp [State.fC]
@[simp] theorem State.jump_fC (y : Word) : (s.jump y).fC = s.fC := by simp [State.fC]
@[simp] theorem State.retire_fC (k : Bool) : (s.retire k).fC = s.fC := by simp [State.fC]
@[simp] theorem State.woken_fC : (s.woken).fC = s.fC := by simp [State.fC]
@[simp] theorem State.halt_fC : (s.halt).fC = s.fC := by simp [State.fC]
@[simp] theorem State.di_fC : (s.di).fC = s.fC := by simp [State.fC]
@[simp] theorem State.ei_fC : (s.ei).fC = s.fC := by simp [State.fC]
@[simp] theorem State.returnTo_fC (k : Bool) : (s.returnTo k).fC = s.fC := by simp [State.fC]
@[simp] theorem State.write_fC (x : Word) (v : Byte) : (s.write x v).fC = s.fC := by simp [State.fC]
@[simp] theorem State.pushByte_fC (v : Byte) : (s.pushByte v).fC = s.fC := by simp [State.fC]
@[simp] theorem State.pushWord_fC (w : Word) : (s.pushWord w).fC = s.fC := by simp [State.fC]
@[simp] theorem State.call_fC (x : Word) : (s.call x).fC = s.fC := by simp [State.fC]
@[simp] theorem State.enterDispatch_fC (k : IrqSource) : (s.enterDispatch k).fC = s.fC := by simp [State.fC]
@[simp] theorem State.stop_fC : (s.stop).fC = s.fC := by simp [State.fC]
@[simp] theorem State.setReg_fC (r : Reg8) (v : Byte) : (s.setReg r v).fC = s.fC := by simp [State.fC]
@[simp] theorem State.setPair_fC (p : Pair16) (w : Word) : (s.setPair p w).fC = s.fC := by simp [State.fC]

@[simp] theorem State.past_pair (n : Nat) (p : Pair16) : (s.past n).pair p = s.pair p := by
  cases p <;> simp [State.pair, State.bc, State.de]
@[simp] theorem State.past_stk (n : Nat) (q : StkPair) : (s.past n).stk q = s.stk q := by
  cases q <;> simp [State.stk, State.bc, State.de, State.af]
@[simp] theorem State.past_cond (n : Nat) (k : Cond) : (s.past n).cond k = s.cond k := by
  cases k <;> simp [State.cond]
@[simp] theorem State.past_loc (n : Nat) (x : Loc8) : (s.past n).loc x = s.loc x := by
  cases x <;> simp [State.loc]
@[simp] theorem State.past_topWord (n : Nat) : (s.past n).topWord = s.topWord := by simp [State.topWord]
@[simp] theorem State.past_indirectAddr (n : Nat) (m : Indirect) : (s.past n).indirectAddr m = s.indirectAddr m := by
  cases m <;> simp [State.indirectAddr, State.bc, State.de]

/-- The register a pair's write leaves alone (`SP` has no halves). -/
theorem State.setPair_reg_of_not_mem (p : Pair16) (w : Word) (r : Reg8) (h : r ≠ .b ∧ r ≠ .c ∨ p ≠ .bc)
    (h' : r ≠ .d ∧ r ≠ .e ∨ p ≠ .de) (h'' : r ≠ .h ∧ r ≠ .l ∨ p ≠ .hl) : (s.setPair p w).reg r = s.reg r := by
  cases p <;> cases r <;> simp_all

/-- The program counter past an instruction. -/
theorem State.pcAfterOpcode_of_bug (h : s.haltBug = true) : s.pcAfterOpcode = s.pc := by simp [State.pcAfterOpcode, h]

theorem State.pcAfterOpcode_of_not_bug (h : s.haltBug = false) : s.pcAfterOpcode = s.pc + 1#16 := by
  simp [State.pcAfterOpcode, h]

/-! ### What reset leaves -/

@[simp] theorem State.reset_a : State.reset.a = 0#8 := rfl
@[simp] theorem State.reset_f : State.reset.f = 0#8 := rfl
@[simp] theorem State.reset_b : State.reset.b = 0#8 := rfl
@[simp] theorem State.reset_c : State.reset.c = 0#8 := rfl
@[simp] theorem State.reset_d : State.reset.d = 0#8 := rfl
@[simp] theorem State.reset_e : State.reset.e = 0#8 := rfl
@[simp] theorem State.reset_h : State.reset.h = 0#8 := rfl
@[simp] theorem State.reset_l : State.reset.l = 0#8 := rfl
@[simp] theorem State.reset_sp : State.reset.sp = 0#16 := rfl
@[simp] theorem State.reset_pc : State.reset.pc = 0#16 := rfl
@[simp] theorem State.reset_ime : State.reset.ime = false := rfl
@[simp] theorem State.reset_imeSched : State.reset.imeSched = false := rfl
@[simp] theorem State.reset_haltActive : State.reset.haltActive = false := rfl
@[simp] theorem State.reset_haltBug : State.reset.haltBug = false := rfl
@[simp] theorem State.reset_pipe : State.reset.pipe = none := rfl
@[simp] theorem State.reset_scratch : State.reset.scratch = [] := rfl
@[simp] theorem State.reset_key1 : State.reset.key1 = some ⟨false, false⟩ := rfl
@[simp] theorem State.reset_mem : State.reset.mem = [] := rfl

end Sys2Proof.Machine
end

