-- ==== Sys2Proof/Laws/Flags.lean ====
section
/-! SUPPORT. The flag register: what packing and unpacking give, and that every write of flags leaves the low nibble zero. -/

namespace Sys2Proof.Machine

@[simp] theorem flagZ_packFlags (z n h c : Bool) : flagZ (packFlags z n h c) = z := by
  cases z <;> cases n <;> cases h <;> cases c <;> decide
@[simp] theorem flagN_packFlags (z n h c : Bool) : flagN (packFlags z n h c) = n := by
  cases z <;> cases n <;> cases h <;> cases c <;> decide
@[simp] theorem flagH_packFlags (z n h c : Bool) : flagH (packFlags z n h c) = h := by
  cases z <;> cases n <;> cases h <;> cases c <;> decide
@[simp] theorem flagC_packFlags (z n h c : Bool) : flagC (packFlags z n h c) = c := by
  cases z <;> cases n <;> cases h <;> cases c <;> decide

/-- The low nibble of a packed flag register is zero (R21). -/
@[simp] theorem packFlags_low (z n h c : Bool) : packFlags z n h c &&& 0x0F#8 = 0#8 := by
  cases z <;> cases n <;> cases h <;> cases c <;> decide

/-- A byte with a zero low nibble is determined by its four flags. -/
theorem packFlags_flags {f : Byte} (hf : f &&& 0x0F#8 = 0#8) :
    packFlags (flagZ f) (flagN f) (flagH f) (flagC f) = f := by
  revert f; decide +revert

variable (t : FlagTuple) (f : Byte)

@[simp] theorem FlagTuple.applyTo_flagZ : flagZ (t.applyTo f) = t.z.getD (flagZ f) := flagZ_packFlags ..
@[simp] theorem FlagTuple.applyTo_flagN : flagN (t.applyTo f) = t.n.getD (flagN f) := flagN_packFlags ..
@[simp] theorem FlagTuple.applyTo_flagH : flagH (t.applyTo f) = t.h.getD (flagH f) := flagH_packFlags ..
@[simp] theorem FlagTuple.applyTo_flagC : flagC (t.applyTo f) = t.c.getD (flagC f) := flagC_packFlags ..

/-- A write of flags leaves the low nibble zero. -/
@[simp] theorem FlagTuple.applyTo_low : t.applyTo f &&& 0x0F#8 = 0#8 := packFlags_low ..

/-- A write of `AF` leaves the low nibble zero (R23). -/
@[simp] theorem maskF_low (v : Byte) : v &&& 0xF0#8 &&& 0x0F#8 = 0#8 := by
  rw [BitVec.and_assoc]; simp

variable (s : State)

@[simp] theorem State.setFlags_fZ : (s.setFlags t).fZ = t.z.getD s.fZ := FlagTuple.applyTo_flagZ ..
@[simp] theorem State.setFlags_fN : (s.setFlags t).fN = t.n.getD s.fN := FlagTuple.applyTo_flagN ..
@[simp] theorem State.setFlags_fH : (s.setFlags t).fH = t.h.getD s.fH := FlagTuple.applyTo_flagH ..
@[simp] theorem State.setFlags_fC : (s.setFlags t).fC = t.c.getD s.fC := FlagTuple.applyTo_flagC ..

/-- What the four flags of a state are after a write of a tuple, whatever else is written afterwards but `F`. -/
theorem hasFlags_of_setFlags {u : State} (h : u.f = t.applyTo s.f) :
    HasFlags u (t.z.getD s.fZ) (t.n.getD s.fN) (t.h.getD s.fH) (t.c.getD s.fC) := by
  simp [HasFlags, State.fZ, State.fN, State.fH, State.fC, h]

end Sys2Proof.Machine
end

