-- ==== Sys2Proof/Laws/Memory.lean ====
section
/-! SUPPORT. The reference memory: a read after a write, the canonical form kept by every write, and the same facts for the bus
of the state (`State.read`, `State.write`) with KEY1 behind its address. -/

namespace Sys2Proof.Machine

/-! ## The list of cells -/

theorem memRead_nil (a : Nat) : memRead [] a = unlistedByte := rfl

theorem memRead_cons (k : Nat) (v : Byte) (m : List Host.Cell) (a : Nat) :
    memRead ((k, v) :: m) a = if a = k then v else memRead m a := rfl

theorem memWfFrom_cons (lo k : Nat) (v : Byte) (m : List Host.Cell) :
    memWfFrom lo ((k, v) :: m) = true ↔ lo ≤ k ∧ k < 65536 ∧ v ≠ unlistedByte ∧ memWfFrom (k + 1) m = true := by
  simp [memWfFrom, and_assoc]

/-- The form from a bound gives the form from every lower bound. -/
theorem memWfFrom_mono {lo lo' : Nat} {m : List Host.Cell} (h : lo ≤ lo') (hm : memWfFrom lo' m = true) :
    memWfFrom lo m = true := by
  cases m with
  | nil => rfl
  | cons c m =>
    obtain ⟨k, v⟩ := c
    rw [memWfFrom_cons] at hm ⊢
    exact ⟨by omega, hm.2⟩

/-- Below the bound nothing is listed. -/
theorem memRead_below {lo a : Nat} {m : List Host.Cell} (hm : memWfFrom lo m = true) (h : a < lo) :
    memRead m a = unlistedByte := by
  induction m generalizing lo with
  | nil => rfl
  | cons c m ih =>
    obtain ⟨k, v⟩ := c
    rw [memWfFrom_cons] at hm
    rw [memRead_cons, if_neg (by omega)]
    exact ih hm.2.2.2 (by omega)

/-- Reading where a byte was written gives that byte. -/
theorem memRead_memWrite_same {lo : Nat} {m : List Host.Cell} (hm : memWfFrom lo m = true) (a : Nat) (v : Byte) :
    memRead (memWrite m a v) a = v := by
  induction m generalizing lo with
  | nil => unfold memWrite; split <;> simp_all [memRead]
  | cons c m ih =>
    obtain ⟨k, w⟩ := c
    rw [memWfFrom_cons] at hm
    unfold memWrite
    split
    · split
      · rw [memRead_cons, if_neg (by omega), memRead_below hm.2.2.2 (by omega)]
        exact ‹v = unlistedByte›.symm
      · rw [memRead_cons, if_pos rfl]
    · split
      · split
        · rw [memRead_below hm.2.2.2 (by omega)]
          exact ‹v = unlistedByte›.symm
        · rw [memRead_cons, if_pos rfl]
      · rw [memRead_cons, if_neg ‹_›, ih hm.2.2.2]

/-- A write leaves every other byte alone. -/
theorem memRead_memWrite_other (m : List Host.Cell) {a b : Nat} (v : Byte) (h : b ≠ a) :
    memRead (memWrite m a v) b = memRead m b := by
  induction m with
  | nil => unfold memWrite; split <;> simp [memRead, h]
  | cons c m ih =>
    obtain ⟨k, w⟩ := c
    unfold memWrite
    split
    · split <;> simp [memRead, h]
    · split
      · subst ‹a = k›
        split <;> simp [memRead, h]
      · simp [memRead, ih]

/-- A write below 65536 keeps the form. -/
theorem memWfFrom_memWrite {lo a : Nat} {m : List Host.Cell} (v : Byte) (hm : memWfFrom lo m = true) (hlo : lo ≤ a)
    (ha : a < 65536) : memWfFrom lo (memWrite m a v) = true := by
  induction m generalizing lo with
  | nil => unfold memWrite; split <;> simp_all [memWfFrom]
  | cons c m ih =>
    obtain ⟨k, w⟩ := c
    have hc := (memWfFrom_cons lo k w m).mp hm
    unfold memWrite
    split
    · split
      · exact hm
      · rw [memWfFrom_cons]
        refine ⟨hlo, ha, ‹_›, ?_⟩
        rw [memWfFrom_cons]
        exact ⟨by omega, hc.2⟩
    · split
      · split
        · exact memWfFrom_mono (by omega) hc.2.2.2
        · rw [memWfFrom_cons]
          exact ⟨hlo, ha, ‹_›, by have := hc.2.2.2; rwa [← ‹a = k›] at this⟩
      · rw [memWfFrom_cons]
        exact ⟨hc.1, hc.2.1, hc.2.2.1, ih hc.2.2.2 (by omega)⟩

/-- Every write at a machine address keeps the canonical form. -/
theorem Memory.wf_memWrite {m : List Host.Cell} (hm : Memory.wf m = true) (x : Word) (v : Byte) :
    Memory.wf (memWrite m x.toNat v) = true :=
  memWfFrom_memWrite v hm (Nat.zero_le _) x.isLt

/-- The memory of the reset state has the canonical form. -/
theorem Memory.wf_reset : Memory.wf State.reset.mem = true := rfl

/-- Writing what an unlisted address reads as to an empty memory lists nothing. -/
theorem memWrite_nil_unlisted (a : Nat) : memWrite [] a unlistedByte = [] := rfl

/-! ## The bus -/

variable (s : State)

/-- The bus's write keeps the canonical form. -/
theorem State.write_wf (hm : Memory.wf s.mem = true) (x : Word) (v : Byte) : Memory.wf (s.write x v).mem = true := by
  rw [State.write_mem]
  split
  · exact hm
  · exact Memory.wf_memWrite hm x v

/-- A push keeps the canonical form. -/
theorem State.pushByte_wf (hm : Memory.wf s.mem = true) (v : Byte) : Memory.wf (s.pushByte v).mem = true :=
  State.write_wf { s with sp := s.sp - 1#16 } hm _ v

theorem State.pushWord_wf (hm : Memory.wf s.mem = true) (w : Word) : Memory.wf (s.pushWord w).mem = true :=
  State.pushByte_wf _ (s.pushByte_wf hm _) _

/-- The first row of a dispatch keeps the canonical form. -/
theorem State.enterDispatch_wf (hm : Memory.wf s.mem = true) (k : IrqSource) :
    Memory.wf (s.enterDispatch k).mem = true :=
  Memory.wf_memWrite hm ifAddr _

/-- The address is KEY1's exactly on the variant and at that address. -/
theorem State.isKey1_iff (x : Word) : s.isKey1 x = true ↔ x = key1Addr ∧ s.key1.isSome = true := by
  simp [State.isKey1]

theorem State.isKey1_of_ne {x : Word} (h : x ≠ key1Addr) : s.isKey1 x = false := by simp [State.isKey1, h]

/-- A read away from KEY1's address is a read of memory. -/
theorem State.read_of_ne {x : Word} (h : x ≠ key1Addr) : s.read x = memRead s.mem x.toNat := by simp [State.read, h]

/-- A read on base hardware is a read of memory. -/
theorem State.read_of_base {x : Word} (h : s.key1 = none) : s.read x = memRead s.mem x.toNat := by
  simp [State.read, h]

/-- A read of KEY1. -/
theorem State.read_key1 {k : Key1} (h : s.key1 = some k) : s.read key1Addr = k.read := by simp [State.read, h]

/-- A write to `x` leaves what every other address reads as. -/
theorem State.write_read_other {x y : Word} (v : Byte) (h : y ≠ x) : (s.write x v).read y = s.read y := by
  have hn : y.toNat ≠ x.toNat := fun e => h (BitVec.eq_of_toNat_eq e)
  by_cases hk : s.isKey1 x = true
  · obtain ⟨rfl, -⟩ := (s.isKey1_iff x).mp hk
    simp [State.read, h, hk]
  · by_cases hy : y = key1Addr
    · subst hy
      simp [State.read, hk, memRead_memWrite_other _ v hn]
    · simp [State.read, hy, hk, memRead_memWrite_other _ v hn]

/-- Reading where a byte was stored, KEY1's address on the variant apart. -/
theorem State.write_read_same (hm : Memory.wf s.mem = true) {x : Word} (v : Byte) (h : s.isKey1 x = false) :
    (s.write x v).read x = v := by
  have hr := memRead_memWrite_same hm x.toNat v
  by_cases hx : x = key1Addr
  · subst hx
    have hk : s.key1 = none := by
      cases hs : s.key1 with
      | none => rfl
      | some k => simp [State.isKey1, hs] at h
    simp [State.read, State.write, State.isKey1, hk, hr]
  · simp [State.read, hx, h, hr]

/-- A write keeps whether the machine has KEY1. -/
theorem State.write_isKey1 (x y : Word) (v : Byte) : (s.write x v).isKey1 y = s.isKey1 y := by
  unfold State.isKey1
  rw [State.write_key1, apply_ite Option.isSome, Option.isSome_map, ite_self]

/-- `DOUBLE_SPEED` is read-only on the bus. -/
theorem State.write_doubleSpeed (x : Word) (v : Byte) :
    (s.write x v).key1.map (·.doubleSpeed) = s.key1.map (·.doubleSpeed) := by
  rw [State.write_key1]
  split
  · cases s.key1 <;> rfl
  · rfl

/-- A push leaves every byte but the one at `SP - 1`. -/
theorem State.pushByte_read_other {y : Word} (v : Byte) (h : y ≠ s.sp - 1#16) : (s.pushByte v).read y = s.read y :=
  State.write_read_other { s with sp := s.sp - 1#16 } v h

/-- A push of a word leaves every byte but those at `SP - 1` and `SP - 2`. -/
theorem State.pushWord_read_other {y : Word} (w : Word) (h : y ≠ s.sp - 1#16) (h' : y ≠ s.sp - 2#16) :
    (s.pushWord w).read y = s.read y := by
  have e : (s.pushByte (hiByte w)).sp - 1#16 = s.sp - 2#16 := by
    rw [State.pushByte_sp]; bv_omega
  rw [State.pushWord, State.pushByte_read_other _ _ (by rw [e]; exact h'), State.pushByte_read_other _ _ h]

end Sys2Proof.Machine
end

