-- ==== Sys2Proof/Laws/Cycle.lean ====
section
/-! SUPPORT. What one immediate step, one bus access and one row of an M-cycle table can do: when they find their bytes on the
scratch stack and how many they leave, and what of the state they never touch. -/

namespace Sys2Proof.Machine

/-- What every piece of a row keeps: a zero low nibble of `F`, memory in its canonical form, and `PIPE`. -/
structure RowKeeps (s t : State) : Prop where
  low : s.f &&& 0x0F#8 = 0#8 → t.f &&& 0x0F#8 = 0#8
  wf : Memory.wf s.mem = true → Memory.wf t.mem = true
  pipe : t.pipe = s.pipe

theorem RowKeeps.refl (s : State) : RowKeeps s s := ⟨id, id, rfl⟩

theorem RowKeeps.trans {s t u : State} (h : RowKeeps s t) (k : RowKeeps t u) : RowKeeps s u :=
  ⟨k.low ∘ h.low, k.wf ∘ h.wf, k.pipe.trans h.pipe⟩

/-- A step that leaves `F`, memory and `PIPE` as they are. -/
theorem RowKeeps.of_same {s t : State} (hf : t.f = s.f) (hm : t.mem = s.mem) (hp : t.pipe = s.pipe) : RowKeeps s t :=
  ⟨fun h => by rwa [hf], fun h => by rwa [hm], hp⟩

/-- A step that writes `F` with a low nibble of zero. -/
theorem RowKeeps.of_flags {s t : State} (hf : t.f &&& 0x0F#8 = 0#8) (hm : t.mem = s.mem) (hp : t.pipe = s.pipe) :
    RowKeeps s t :=
  ⟨fun _ => hf, fun h => by rwa [hm], hp⟩

/-- An immediate step that finds its bytes answers a state, with as many bytes as its arity says. -/
theorem Micro.run_total (m : Micro) (s : State) (h : m.arity.1 ≤ s.scratch.length) :
    ∃ t, m.run s = some t ∧ t.scratch.length = s.scratch.length - m.arity.1 + m.arity.2 := by
  rcases hs : s.scratch with _ | ⟨x, _ | ⟨y, rest⟩⟩ <;> cases m <;>
    simp_all [Micro.arity, Micro.run, State.setWord, State.halt, State.stop, State.di, State.ei, State.enterDispatch]
  split <;> rfl

theorem State.setWord_keeps (s : State) (w : WordReg) (v : Word) : RowKeeps s (s.setWord w v) := by
  cases w <;> first | exact .of_same rfl rfl rfl | exact .of_flags (maskF_low _) rfl rfl

/-- What an immediate step keeps. -/
theorem Micro.run_keeps (m : Micro) (s t : State) (h : m.run s = some t) : RowKeeps s t := by
  rcases hs : s.scratch with _ | ⟨x, _ | ⟨y, rest⟩⟩ <;> cases m <;> simp only [Micro.run, hs, Option.some.injEq,
      reduceCtorEq] at h <;> subst h <;>
    first
      | exact .of_same rfl rfl rfl
      | exact .of_flags (FlagTuple.applyTo_low ..) rfl rfl
      | exact ⟨id, fun hm => s.enterDispatch_wf hm _, rfl⟩
      | exact RowKeeps.trans (t := { s with scratch := rest }) (.of_same rfl rfl rfl) (State.setWord_keeps _ _ _)
      | exact .of_same (by simp) (by simp) (by simp)

/-- Immediate steps other than `HALT` leave the halt state as it is. -/
theorem Micro.run_halt (m : Micro) (s t : State) (h : m.run s = some t) (hm : m ≠ .halt) :
    t.haltActive = s.haltActive ∧ t.haltBug = s.haltBug := by
  rcases hs : s.scratch with _ | ⟨x, _ | ⟨y, rest⟩⟩ <;> cases m <;> simp only [Micro.run, hs, Option.some.injEq,
      reduceCtorEq, ne_eq, not_true_eq_false, not_false_eq_true] at h hm <;> subst h <;>
    first
      | exact ⟨rfl, rfl⟩
      | exact ⟨by simp, by simp⟩
      | (cases ‹WordReg› <;> exact ⟨rfl, rfl⟩)

theorem runMicros_total (ms : List Micro) (s : State) (d : Nat)
    (h : depthAfter (ms.map Micro.arity) s.scratch.length = some d) :
    ∃ t, runMicros ms s = some t ∧ t.scratch.length = d := by
  induction ms generalizing s with
  | nil => exact ⟨s, rfl, by simpa [depthAfter] using h⟩
  | cons m ms ih =>
    simp only [List.map_cons, depthAfter] at h
    split at h
    · cases h
    · obtain ⟨t, ht, hl⟩ := m.run_total s (by omega)
      obtain ⟨u, hu, hd⟩ := ih t (by rw [hl]; exact h)
      exact ⟨u, by simp [runMicros, ht, hu], hd⟩

theorem runMicros_keeps (ms : List Micro) (s t : State) (h : runMicros ms s = some t) : RowKeeps s t := by
  induction ms generalizing s with
  | nil => simp only [runMicros, Option.some.injEq] at h; exact h ▸ .refl s
  | cons m ms ih =>
    simp only [runMicros] at h
    split at h
    · exact (m.run_keeps s _ ‹_›).trans (ih _ h)
    · cases h

theorem runMicros_halt (ms : List Micro) (s t : State) (h : runMicros ms s = some t) (hm : Micro.halt ∉ ms) :
    t.haltActive = s.haltActive ∧ t.haltBug = s.haltBug := by
  induction ms generalizing s with
  | nil => simp only [runMicros, Option.some.injEq] at h; exact h ▸ ⟨rfl, rfl⟩
  | cons m ms ih =>
    simp only [List.mem_cons, not_or] at hm
    simp only [runMicros] at h
    split at h
    · have h1 := m.run_halt s _ ‹_› (Ne.symm hm.1)
      have h2 := ih _ h hm.2
      exact ⟨h2.1.trans h1.1, h2.2.trans h1.2⟩
    · cases h

/-- A bus access other than the opcode fetch that finds its bytes answers a state, with as many bytes as its arity says. -/
theorem BusStep.run_total (b : BusStep) (s : State) (hb : b ≠ .fetch) (h : b.arity.1 ≤ s.scratch.length) :
    ∃ op t, b.run s = some (op, t) ∧ t.scratch.length = s.scratch.length - b.arity.1 + b.arity.2 := by
  rcases hs : s.scratch with _ | ⟨x, _ | ⟨y, _ | ⟨z, rest⟩⟩⟩ <;> cases b <;>
    simp_all [BusStep.arity, BusStep.run, State.busRead, State.busWrite]

/-- What a bus access keeps. -/
theorem BusStep.run_keeps (b : BusStep) (s t : State) (op : BusOp) (h : b.run s = some (op, t)) : RowKeeps s t := by
  rcases hs : s.scratch with _ | ⟨x, _ | ⟨y, _ | ⟨z, rest⟩⟩⟩ <;> cases b <;>
    simp only [BusStep.run, hs, State.busRead, State.busWrite, Option.some.injEq, Prod.mk.injEq, reduceCtorEq] at h <;>
    obtain ⟨-, rfl⟩ := h <;>
    first
      | exact .of_same rfl rfl rfl
      | exact ⟨id, fun hm => State.write_wf _ hm _ _, rfl⟩

/-- A bus access leaves `HALT_ACTIVE`; the opcode fetch alone clears `HALT_BUG`. -/
theorem BusStep.run_halt (b : BusStep) (s t : State) (op : BusOp) (h : b.run s = some (op, t)) :
    t.haltActive = s.haltActive ∧ t.haltBug = if b = .fetch then false else s.haltBug := by
  rcases hs : s.scratch with _ | ⟨x, _ | ⟨y, _ | ⟨z, rest⟩⟩⟩ <;> cases b <;>
    simp only [BusStep.run, hs, State.busRead, State.busWrite, Option.some.injEq, Prod.mk.injEq, reduceCtorEq] at h <;>
    obtain ⟨-, rfl⟩ := h <;> exact ⟨rfl, rfl⟩

theorem depthAfter_append (xs ys : List (Nat × Nat)) (d : Nat) :
    depthAfter (xs ++ ys) d = (depthAfter xs d).bind (depthAfter ys) := by
  induction xs generalizing d with
  | nil => rfl
  | cons x xs ih =>
    obtain ⟨a, b⟩ := x
    simp only [List.cons_append, depthAfter]
    split
    · rfl
    · exact ih _

/-- A row other than the opcode fetch's, at a depth its arities allow, answers a state of the depth they give. -/
theorem Row.run_total (r : Row) (s : State) (d : Nat) (hb : r.bus ≠ .fetch) (h : r.depth s.scratch.length = some d) :
    ∃ op t, r.run s = some (op, t) ∧ t.scratch.length = d := by
  simp only [Row.depth, depthAfter_append, Option.bind_eq_some_iff] at h
  obtain ⟨d2, ⟨d1, h1, h2⟩, h3⟩ := h
  obtain ⟨s1, e1, l1⟩ := runMicros_total _ _ _ h1
  simp only [depthAfter] at h2
  split at h2
  · cases h2
  · obtain ⟨op, s2, e2, l2⟩ := r.bus.run_total s1 hb (by omega)
    obtain ⟨s3, e3, l3⟩ := runMicros_total r.post s2 d (by
      rw [l2, l1, Option.some.inj h2]; exact h3)
    exact ⟨op, s3, by simp [Row.run, e1, e2, e3], l3⟩

/-- What a row keeps. -/
theorem Row.run_keeps (r : Row) (s t : State) (op : BusOp) (h : r.run s = some (op, t)) : RowKeeps s t := by
  simp only [Row.run] at h
  split at h
  · cases h
  · split at h
    · cases h
    · split at h
      · cases h
      · obtain ⟨rfl, rfl⟩ := Prod.mk.inj (Option.some.inj h)
        exact ((runMicros_keeps _ _ _ ‹_›).trans (BusStep.run_keeps _ _ _ _ ‹_›)).trans (runMicros_keeps _ _ _ ‹_›)

/-! ## The trace callback -/

/-- An absent callback leaves the host's data. -/
@[simp] theorem State.traced_none {α : Type} (s : State) (host : α) : s.traced host none = host := rfl

/-- A traced cycle is the cycle, with the callback's work on the host's data beside it. -/
theorem tracedCycle_eq_next {α : Type} {s t : State} (host : α) (callback : TraceCallback α) (h : cycle s = .next t) :
    tracedCycle s host callback = .next (s.traced host callback, t) := by
  rw [tracedCycle, h]

end Sys2Proof.Machine
end

