-- ==== Sys2Proof/Laws/Exec.lean ====
section
/-! SUPPORT. What `exec` answers, one equation for each family of constructors, in terms of the shared operation behind the
family. `exec_completes` says it of every constructor at once: a next state, and none else. -/

namespace Sys2Proof.Machine

variable (s : State)

theorem exec_ldRegReg (x y : Reg8) : exec (.ldRegReg x y) s = .next (loadRegReg x y s) := by
  cases x <;> cases y <;> rfl
theorem exec_ldRegImm (x : Reg8) (n : Byte) : exec (.ldRegImm x n) s = .next (loadRegImm x n s) := by
  cases x <;> rfl
theorem exec_ldRegMem (x : Reg8) : exec (.ldRegMem x) s = .next (loadRegMem x s) := by
  cases x <;> rfl
theorem exec_ldMemReg (x : Reg8) : exec (.ldMemReg x) s = .next (storeMemReg x s) := by
  cases x <;> rfl
theorem exec_ldMemHlN (n : Byte) : exec (.ldMemHlN n) s = .next (storeMemImm n s) := rfl
theorem exec_ldAIndirect (m : Indirect) : exec (.ldAIndirect m) s = .next (loadAIndirect m s) := by
  cases m <;> rfl
theorem exec_ldIndirectA (m : Indirect) : exec (.ldIndirectA m) s = .next (storeIndirectA m s) := by
  cases m <;> rfl
theorem exec_ldAMemNn (nn : Word) : exec (.ldAMemNn nn) s = .next (loadAAbs nn s) := rfl
theorem exec_ldMemNnA (nn : Word) : exec (.ldMemNnA nn) s = .next (storeAbsA nn s) := rfl
theorem exec_ldhAMemC : exec .ldhAMemC s = .next (loadAHighC s) := rfl
theorem exec_ldhMemCA : exec .ldhMemCA s = .next (storeHighCA s) := rfl
theorem exec_ldhAMemN (n : Byte) : exec (.ldhAMemN n) s = .next (loadAHigh n s) := rfl
theorem exec_ldhMemNA (n : Byte) : exec (.ldhMemNA n) s = .next (storeHighA n s) := rfl
theorem exec_ldPairImm (p : Pair16) (nn : Word) : exec (.ldPairImm p nn) s = .next (loadPairImm p nn s) := by
  cases p <;> rfl
theorem exec_ldMemNnSp (nn : Word) : exec (.ldMemNnSp nn) s = .next (storeAbsSp nn s) := rfl
theorem exec_ldSpHl : exec .ldSpHl s = .next (loadSpHl s) := rfl
theorem exec_push (q : StkPair) : exec (.push q) s = .next (pushPair q s) := by
  cases q <;> rfl
theorem exec_pop (q : StkPair) : exec (.pop q) s = .next (popPair q s) := by
  cases q <;> rfl
theorem exec_ldHlSpE (e : Byte) : exec (.ldHlSpE e) s = .next (loadHlSpPlus e s) := rfl
theorem exec_aluReg (op : AluOp) (r : Reg8) : exec (.aluReg op r) s = .next (aluRegister op r s) := by
  cases op <;> cases r <;> rfl
theorem exec_aluMem (op : AluOp) : exec (.aluMem op) s = .next (aluMemory op s) := by
  cases op <;> rfl
theorem exec_aluImm (op : AluOp) (n : Byte) : exec (.aluImm op n) s = .next (aluImmediate op n s) := by
  cases op <;> rfl
theorem exec_incReg (r : Reg8) : exec (.incReg r) s = .next (incRegister r s) := by
  cases r <;> rfl
theorem exec_decReg (r : Reg8) : exec (.decReg r) s = .next (decRegister r s) := by
  cases r <;> rfl
theorem exec_incMemHl : exec .incMemHl s = .next (incMemory s) := rfl
theorem exec_decMemHl : exec .decMemHl s = .next (decMemory s) := rfl
theorem exec_daa : exec .daa s = .next (adjustA s) := rfl
theorem exec_cpl : exec .cpl s = .next (complementA s) := rfl
theorem exec_scf : exec .scf s = .next (setCarry s) := rfl
theorem exec_ccf : exec .ccf s = .next (complementCarry s) := rfl
theorem exec_addHlPair (p : Pair16) : exec (.addHlPair p) s = .next (addToHl p s) := by
  cases p <;> rfl
theorem exec_incPair (p : Pair16) : exec (.incPair p) s = .next (incrementPair p s) := by
  cases p <;> rfl
theorem exec_decPair (p : Pair16) : exec (.decPair p) s = .next (decrementPair p s) := by
  cases p <;> rfl
theorem exec_addSpE (e : Byte) : exec (.addSpE e) s = .next (addToSp e s) := rfl
theorem exec_accRot (o : AccRot) : exec (.accRot o) s = .next (rotateA o s) := by
  cases o <;> rfl
theorem exec_rotLoc (o : RotOp) (x : Loc8) : exec (.rotLoc o x) s = .next (rotateLoc o x s) := by
  cases o <;> rcases x with r | _ <;> (try cases r) <;> rfl
theorem exec_bitLoc (n : Fin 8) (x : Loc8) : exec (.bitLoc n x) s = .next (testBitLoc n x s) := by
  fin_cases n <;> rcases x with r | _ <;> (try cases r) <;> rfl
theorem exec_resLoc (n : Fin 8) (x : Loc8) : exec (.resLoc n x) s = .next (resetBitLoc n x s) := by
  fin_cases n <;> rcases x with r | _ <;> (try cases r) <;> rfl
theorem exec_setLoc (n : Fin 8) (x : Loc8) : exec (.setLoc n x) s = .next (setBitLoc n x s) := by
  fin_cases n <;> rcases x with r | _ <;> (try cases r) <;> rfl
theorem exec_jpNn (nn : Word) : exec (.jpNn nn) s = .next (jumpTo nn s) := rfl
theorem exec_jpCond (k : Cond) (nn : Word) : exec (.jpCond k nn) s = .next (jumpIf k nn s) := by
  cases k <;> rfl
theorem exec_jpHl : exec .jpHl s = .next (jumpHl s) := rfl
theorem exec_jrE (e : Byte) : exec (.jrE e) s = .next (jumpRelative e s) := rfl
theorem exec_jrCond (k : Cond) (e : Byte) : exec (.jrCond k e) s = .next (jumpRelativeIf k e s) := by
  cases k <;> rfl
theorem exec_callNn (nn : Word) : exec (.callNn nn) s = .next (callTo nn s) := rfl
theorem exec_callCond (k : Cond) (nn : Word) : exec (.callCond k nn) s = .next (callIf k nn s) := by
  cases k <;> rfl
theorem exec_ret : exec .ret s = .next (returnFrom s) := rfl
theorem exec_retCond (k : Cond) : exec (.retCond k) s = .next (returnIf k s) := by
  cases k <;> rfl
theorem exec_reti : exec .reti s = .next (returnEnabling s) := rfl
theorem exec_rst (t : Fin 8) : exec (.rst t) s = .next (restart t s) := by
  fin_cases t <;> rfl
theorem exec_nop : exec .nop s = .next (noOperation s) := rfl
theorem exec_halt : exec .halt s = .next (haltCore s) := rfl
theorem exec_stop : exec .stop s = .next (stopCore s) := rfl
theorem exec_di : exec .di s = .next (disableInterrupts s) := rfl
theorem exec_ei : exec .ei s = .next (enableInterrupts s) := rfl
theorem exec_prefixCb : exec .prefixCb s = .next (prefixed s) := rfl

theorem exec_undefined {i : Instr} (h : i ∈ Instr.undefinedOpcodes) : exec i s = .next (noOperation s) := by
  simp only [Instr.undefinedOpcodes, List.mem_cons, List.not_mem_nil, or_false] at h
  rcases h with h | h | h | h | h | h | h | h | h | h | h <;> subst h <;> rfl

/-- The row of the CB table for `op2` does that byte's work past its two bytes. -/
theorem exec_cbInstr (op2 : Byte) : exec (cbInstr op2) s = .next ((s.past 2).cbWork op2) := by
  unfold cbInstr State.cbWork
  split
  · simp only [exec_rotLoc, rotateLoc, *]
  · simp only [exec_bitLoc, testBitLoc, *]
  · simp only [exec_resLoc, resetBitLoc, *]
  · rw [exec_setLoc, setBitLoc] <;> split <;> first | rfl | contradiction

/-- Every instruction answers a next state. -/
theorem exec_completes (i : Instr) : ∃ t, exec i s = .next t := by
  cases i <;> exact ⟨_, rfl⟩

end Sys2Proof.Machine
end

