-- ==== Sys2Proof/Laws/Frame.lean ====
section
/-! SUPPORT. Frames by composition: what the opcode fetch leaves unchanged, and, for each shared operation, that a frame stays one
when the operation's own register or address is among those named; the program counter past an instruction, the byte a store
leaves, and the stack bytes after a push. -/

namespace Sys2Proof.Machine

variable {s t : State} {regs : List Reg8} {addrs : List Word}

/-! ## The program counter -/

theorem past_one_pc_eq (s : State) : (s.past 1).pc = pcPast 1 s := by
  rw [State.past_one_pc, State.pcAfterOpcode, pcPast]; split <;> simp

theorem past_two_pc_eq (s : State) : (s.past 2).pc = pcPast 2 s := by
  rw [State.past_two_pc, State.pcAfterOpcode, pcPast]; split <;> simp [BitVec.add_assoc]

theorem past_three_pc_eq (s : State) : (s.past 3).pc = pcPast 3 s := by
  rw [State.past_three_pc, State.pcAfterOpcode, pcPast]; split <;> simp [BitVec.add_assoc]

/-- The states past the bytes of an instruction, written out. -/
theorem past_one_eq (s : State) : s.past 1 = { s with pc := pcPast 1 s, haltBug := false } := by
  rw [← past_one_pc_eq]; rfl
theorem past_two_eq (s : State) : s.past 2 = { s with pc := pcPast 2 s, haltBug := false } := by
  rw [← past_two_pc_eq]; rfl
theorem past_three_eq (s : State) : s.past 3 = { s with pc := pcPast 3 s, haltBug := false } := by
  rw [← past_three_pc_eq]; rfl

/-! ## Words, their halves, and the stack pointer -/

@[simp] theorem hiByte_joinBytes (a b : Byte) : hiByte (joinBytes a b) = a := by
  apply BitVec.eq_of_getLsbD_eq
  intro i hi
  simp only [joinBytes, hiByte, BitVec.getLsbD_extractLsb', BitVec.getLsbD_append]
  simp [hi, show ¬ 8 + i < 8 by omega]

@[simp] theorem loByte_joinBytes (a b : Byte) : loByte (joinBytes a b) = b := by
  apply BitVec.eq_of_getLsbD_eq
  intro i hi
  simp only [joinBytes, loByte, BitVec.getLsbD_extractLsb', BitVec.getLsbD_append]
  simp [hi]

@[simp] theorem joinBytes_halves (w : Word) : joinBytes (hiByte w) (loByte w) = w := by
  apply BitVec.eq_of_getLsbD_eq
  intro i hi
  simp only [joinBytes, hiByte, loByte, BitVec.getLsbD_append, BitVec.getLsbD_extractLsb']
  split
  · simp [*]
  · simp [show i - 8 < 8 by omega, show 8 + (i - 8) = i by omega]

theorem word_sub_sub (w : Word) : w - 1#16 - 1#16 = w - 2#16 := by bv_omega
theorem word_add_add (w : Word) : w + 1#16 + 1#16 = w + 2#16 := by bv_omega
theorem word_sub_two_add (w : Word) : w - 2#16 + 1#16 = w - 1#16 := by bv_omega

/-! ## Frames -/

theorem Frame.past (s : State) (n : Nat) : Frame [] [] s (s.past (n + 1)) where
  regs_same r _ := by simp
  mem_same x _ := by simp
  key1_same _ := by simp
  speed_same := by simp
  halt_same := by simp
  bug_consumed := by simp
  pipe_same := by simp
  scratch_same := by simp

/-- A frame may name more than it needs to. -/
theorem Frame.mono {regs' : List Reg8} {addrs' : List Word} (h : Frame regs addrs s t) (hr : regs ⊆ regs')
    (ha : addrs ⊆ addrs') : Frame regs' addrs' s t :=
  { h with
    regs_same := fun r hn => h.regs_same r (fun hm => hn (hr hm))
    mem_same := fun x hn => h.mem_same x (fun hm => hn (ha hm))
    key1_same := fun hn => h.key1_same (fun hm => hn (ha hm)) }

/-- A state that agrees with a framed one on all that a frame speaks of is framed. -/
theorem Frame.of_same {u : State} (h : Frame regs addrs s t) (hr : ∀ r, r ∉ regs → u.reg r = t.reg r) (hk : u.key1 = t.key1)
    (hm : u.mem = t.mem) (hh : u.haltActive = t.haltActive) (hb : u.haltBug = t.haltBug) (hp : u.pipe = t.pipe)
    (hs : u.scratch = t.scratch) : Frame regs addrs s u where
  regs_same r hn := (hr r hn).trans (h.regs_same r hn)
  mem_same x hn := (t.read_congr u hk hm x).trans (h.mem_same x hn)
  key1_same hn := hk.trans (h.key1_same hn)
  speed_same := by rw [hk]; exact h.speed_same
  halt_same := hh.trans h.halt_same
  bug_consumed := hb.trans h.bug_consumed
  pipe_same := hp.trans h.pipe_same
  scratch_same := hs.trans h.scratch_same

theorem Frame.setFlags (h : Frame regs addrs s t) (k : FlagTuple) : Frame regs addrs s (t.setFlags k) :=
  h.of_same (by simp) rfl rfl rfl rfl rfl rfl

theorem Frame.setReg (h : Frame regs addrs s t) (r : Reg8) (v : Byte) (hr : r ∈ regs) :
    Frame regs addrs s (t.setReg r v) :=
  h.of_same (fun r' hn => by rw [State.setReg_reg, if_neg (ne_of_mem_of_not_mem hr hn).symm]) (by simp) (by simp) (by simp) (by simp)
    (by simp) (by simp)

theorem Frame.setPair (h : Frame regs addrs s t) (p : Pair16) (w : Word) (hp : pairHalves p ⊆ regs) :
    Frame regs addrs s (t.setPair p w) :=
  h.of_same (fun r hn => by
    have hq : r ∉ pairHalves p := fun hm => hn (hp hm)
    cases p <;> cases r <;> simp_all [pairHalves]) (by simp) (by simp) (by simp) (by simp) (by simp) (by simp)

theorem Frame.setStk (h : Frame regs addrs s t) (q : StkPair) (w : Word) (hq : stkHalves q ⊆ regs) :
    Frame regs addrs s (t.setStk q w) :=
  h.of_same (fun r hn => by
    have hq' : r ∉ stkHalves q := fun hm => hn (hq hm)
    cases q <;> cases r <;> simp_all [stkHalves, State.reg]) (by simp) (by simp) (by simp) (by simp) (by simp) (by simp)

theorem Frame.jump (h : Frame regs addrs s t) (x : Word) : Frame regs addrs s (t.jump x) :=
  h.of_same (by simp) rfl rfl rfl rfl rfl rfl

theorem Frame.dropWord (h : Frame regs addrs s t) : Frame regs addrs s t.dropWord :=
  h.of_same (by simp) rfl rfl rfl rfl rfl rfl

theorem Frame.write (h : Frame regs addrs s t) (x : Word) (v : Byte) (hx : x ∈ addrs) :
    Frame regs addrs s (t.write x v) where
  regs_same r hn := by rw [State.write_reg]; exact h.regs_same r hn
  mem_same y hn := by rw [State.write_read_other _ _ (ne_of_mem_of_not_mem hx hn).symm]; exact h.mem_same y hn
  key1_same hn := by
    have : t.isKey1 x = false := State.isKey1_of_ne _ (ne_of_mem_of_not_mem hx hn)
    rw [State.write_key1, this, if_neg Bool.false_ne_true]
    exact h.key1_same hn
  speed_same := (State.write_doubleSpeed ..).trans h.speed_same
  halt_same := h.halt_same
  bug_consumed := h.bug_consumed
  pipe_same := h.pipe_same
  scratch_same := h.scratch_same

/-- A frame of the state before `SP` is moved is one after. -/
theorem Frame.setSp (h : Frame regs addrs s t) (x : Word) : Frame regs addrs s { t with sp := x } :=
  h.of_same (fun r _ => by cases r <;> rfl) rfl rfl rfl rfl rfl rfl

theorem Frame.pushByte (h : Frame regs addrs s t) (v : Byte) (hx : t.sp - 1#16 ∈ addrs) :
    Frame regs addrs s (t.pushByte v) :=
  (h.setSp (t.sp - 1#16)).write _ v hx

theorem Frame.pushWord (h : Frame regs addrs s t) (w : Word) (h1 : t.sp - 1#16 ∈ addrs) (h2 : t.sp - 2#16 ∈ addrs) :
    Frame regs addrs s (t.pushWord w) :=
  (h.pushByte _ h1).pushByte _ (by
    have e : (t.pushByte (hiByte w)).sp - 1#16 = t.sp - 2#16 := by rw [State.pushByte_sp]; bv_omega
    rwa [e])

/-! ## What a store leaves at its address -/

/-- The byte a store leaves, in terms of a state with the same memory and the same KEY1. -/
theorem State.write_read_stored (s t : State) (hk : t.key1 = s.key1) (hm : Memory.wf t.mem = true) (x : Word) (v : Byte) :
    (t.write x v).read x = storedByte s x v := by
  unfold storedByte
  by_cases hx : x = key1Addr
  · subst hx
    rw [if_pos rfl]
    cases hs : s.key1 with
    | none => exact State.write_read_same t hm v (by simp [State.isKey1, hk, hs])
    | some k =>
      have hv : bit01 v[0] = v &&& 1#8 := by revert v; decide
      simp [State.read, State.write, State.isKey1, hk, hs, Key1.read, Key1.write, hv]
  · rw [if_neg hx]
    exact State.write_read_same t hm v (State.isKey1_of_ne _ hx)

theorem storedByte_congr (s t : State) (hk : t.key1.map (·.doubleSpeed) = s.key1.map (·.doubleSpeed)) (x : Word) (v : Byte) :
    storedByte t x v = storedByte s x v := by
  unfold storedByte
  cases hs : s.key1 <;> cases ht : t.key1 <;> simp_all

/-- A write gives the stored byte even where KEY1 has been written before: `DOUBLE_SPEED` has not changed. -/
theorem State.write_read_stored_speed (s t : State) (hk : t.key1.map (·.doubleSpeed) = s.key1.map (·.doubleSpeed))
    (hm : Memory.wf t.mem = true) (x : Word) (v : Byte) : (t.write x v).read x = storedByte s x v := by
  rw [State.write_read_stored t t rfl hm, storedByte_congr s t hk]

/-- The two bytes of a pushed word. -/
theorem State.pushWord_read_high (s t : State) (hk : t.key1 = s.key1) (hm : Memory.wf t.mem = true) (w : Word) :
    (t.pushWord w).read (t.sp - 1#16) = storedByte s (t.sp - 1#16) (hiByte w) := by
  have e : (t.pushByte (hiByte w)).sp - 1#16 = t.sp - 2#16 := by rw [State.pushByte_sp]; bv_omega
  rw [State.pushWord, State.pushByte_read_other _ _ (by rw [e]; bv_omega)]
  exact State.write_read_stored s { t with sp := t.sp - 1#16 } hk hm _ _

theorem State.pushWord_read_low (s t : State) (hk : t.key1 = s.key1) (hm : Memory.wf t.mem = true) (w : Word) :
    (t.pushWord w).read (t.sp - 2#16) = storedByte s (t.sp - 2#16) (loByte w) := by
  have e : (t.pushByte (hiByte w)).sp - 1#16 = t.sp - 2#16 := by rw [State.pushByte_sp]; bv_omega
  rw [State.pushWord, State.pushByte, e]
  refine State.write_read_stored_speed s _ ?_ (t.pushByte_wf hm _) _ _
  have := State.write_doubleSpeed { t with sp := t.sp - 1#16 } (t.sp - 1#16) (hiByte w)
  rw [← hk]
  exact this

/-- Where the address is not KEY1's, a store leaves its byte. -/
theorem storedByte_of_not_key1 (s : State) {x : Word} (v : Byte) (h : s.isKey1 x = false) : storedByte s x v = v := by
  unfold storedByte
  split
  · subst x
    cases hs : s.key1 <;> simp_all [State.isKey1]
  · rfl

/-- The word on top of the stack depends on `SP` and the bus, on nothing else. -/
theorem State.topWord_congr (s t : State) (hsp : t.sp = s.sp) (hk : t.key1 = s.key1) (hm : t.mem = s.mem) :
    t.topWord = s.topWord := by
  simp only [State.topWord, hsp, s.read_congr t hk hm]

/-- The word on top of the stack after a push is the word pushed, when its two bytes are not KEY1's. -/
theorem State.topWord_pushWord (t : State) (w : Word) (hm : Memory.wf t.mem = true) (h1 : t.isKey1 (t.sp - 1#16) = false)
    (h2 : t.isKey1 (t.sp - 2#16) = false) : (t.pushWord w).topWord = w := by
  rw [State.topWord, State.pushWord_sp, word_sub_sub, word_sub_two_add, State.pushWord_read_high t t rfl hm,
    State.pushWord_read_low t t rfl hm, storedByte_of_not_key1 _ _ h1, storedByte_of_not_key1 _ _ h2, joinBytes_halves]

end Sys2Proof.Machine
end

