-- ==== Sys2Proof/Laws/PerInstr.lean ====
section
/-! SUPPORT. The family `ByteLength`, one lemma per constructor of `Instr`: an instruction's encoding begins with a byte whose
length by 30_encoding.md R105 is the number of bytes of the encoding. -/

namespace Sys2Proof.Laws.ByteLength

/-- The encoding of a complete instruction has as many bytes as R105 gives its first byte. -/
def Statement (i : Instr) : Prop :=
  WellFormed i = true → ∃ op rest, encode i = op :: rest ∧ (encode i).length = opcodeLength op

theorem ldBcNn (nn : Word) : Statement (.ldBcNn nn) := fun _ => ⟨_, _, rfl, rfl⟩
theorem ldBN (n : Byte) : Statement (.ldBN n) := fun _ => ⟨_, _, rfl, rfl⟩
theorem ldMemNnSp (nn : Word) : Statement (.ldMemNnSp nn) := fun _ => ⟨_, _, rfl, rfl⟩
theorem ldCN (n : Byte) : Statement (.ldCN n) := fun _ => ⟨_, _, rfl, rfl⟩
theorem ldDeNn (nn : Word) : Statement (.ldDeNn nn) := fun _ => ⟨_, _, rfl, rfl⟩
theorem ldDN (n : Byte) : Statement (.ldDN n) := fun _ => ⟨_, _, rfl, rfl⟩
theorem jrE (e : Byte) : Statement (.jrE e) := fun _ => ⟨_, _, rfl, rfl⟩
theorem ldEN (n : Byte) : Statement (.ldEN n) := fun _ => ⟨_, _, rfl, rfl⟩
theorem jrNzE (e : Byte) : Statement (.jrNzE e) := fun _ => ⟨_, _, rfl, rfl⟩
theorem ldHlNn (nn : Word) : Statement (.ldHlNn nn) := fun _ => ⟨_, _, rfl, rfl⟩
theorem ldHN (n : Byte) : Statement (.ldHN n) := fun _ => ⟨_, _, rfl, rfl⟩
theorem jrZE (e : Byte) : Statement (.jrZE e) := fun _ => ⟨_, _, rfl, rfl⟩
theorem ldLN (n : Byte) : Statement (.ldLN n) := fun _ => ⟨_, _, rfl, rfl⟩
theorem jrNcE (e : Byte) : Statement (.jrNcE e) := fun _ => ⟨_, _, rfl, rfl⟩
theorem ldSpNn (nn : Word) : Statement (.ldSpNn nn) := fun _ => ⟨_, _, rfl, rfl⟩
theorem ldMemHlN (n : Byte) : Statement (.ldMemHlN n) := fun _ => ⟨_, _, rfl, rfl⟩
theorem jrCE (e : Byte) : Statement (.jrCE e) := fun _ => ⟨_, _, rfl, rfl⟩
theorem ldAN (n : Byte) : Statement (.ldAN n) := fun _ => ⟨_, _, rfl, rfl⟩
theorem jpNzNn (nn : Word) : Statement (.jpNzNn nn) := fun _ => ⟨_, _, rfl, rfl⟩
theorem jpNn (nn : Word) : Statement (.jpNn nn) := fun _ => ⟨_, _, rfl, rfl⟩
theorem callNzNn (nn : Word) : Statement (.callNzNn nn) := fun _ => ⟨_, _, rfl, rfl⟩
theorem addAN (n : Byte) : Statement (.addAN n) := fun _ => ⟨_, _, rfl, rfl⟩
theorem jpZNn (nn : Word) : Statement (.jpZNn nn) := fun _ => ⟨_, _, rfl, rfl⟩
theorem callZNn (nn : Word) : Statement (.callZNn nn) := fun _ => ⟨_, _, rfl, rfl⟩
theorem callNn (nn : Word) : Statement (.callNn nn) := fun _ => ⟨_, _, rfl, rfl⟩
theorem adcAN (n : Byte) : Statement (.adcAN n) := fun _ => ⟨_, _, rfl, rfl⟩
theorem jpNcNn (nn : Word) : Statement (.jpNcNn nn) := fun _ => ⟨_, _, rfl, rfl⟩
theorem callNcNn (nn : Word) : Statement (.callNcNn nn) := fun _ => ⟨_, _, rfl, rfl⟩
theorem subAN (n : Byte) : Statement (.subAN n) := fun _ => ⟨_, _, rfl, rfl⟩
theorem jpCNn (nn : Word) : Statement (.jpCNn nn) := fun _ => ⟨_, _, rfl, rfl⟩
theorem callCNn (nn : Word) : Statement (.callCNn nn) := fun _ => ⟨_, _, rfl, rfl⟩
theorem sbcAN (n : Byte) : Statement (.sbcAN n) := fun _ => ⟨_, _, rfl, rfl⟩
theorem ldhMemNA (n : Byte) : Statement (.ldhMemNA n) := fun _ => ⟨_, _, rfl, rfl⟩
theorem andAN (n : Byte) : Statement (.andAN n) := fun _ => ⟨_, _, rfl, rfl⟩
theorem addSpE (e : Byte) : Statement (.addSpE e) := fun _ => ⟨_, _, rfl, rfl⟩
theorem ldMemNnA (nn : Word) : Statement (.ldMemNnA nn) := fun _ => ⟨_, _, rfl, rfl⟩
theorem xorAN (n : Byte) : Statement (.xorAN n) := fun _ => ⟨_, _, rfl, rfl⟩
theorem ldhAMemN (n : Byte) : Statement (.ldhAMemN n) := fun _ => ⟨_, _, rfl, rfl⟩
theorem orAN (n : Byte) : Statement (.orAN n) := fun _ => ⟨_, _, rfl, rfl⟩
theorem ldHlSpE (e : Byte) : Statement (.ldHlSpE e) := fun _ => ⟨_, _, rfl, rfl⟩
theorem ldAMemNn (nn : Word) : Statement (.ldAMemNn nn) := fun _ => ⟨_, _, rfl, rfl⟩
theorem cpAN (n : Byte) : Statement (.cpAN n) := fun _ => ⟨_, _, rfl, rfl⟩
theorem nop : Statement .nop := fun _ => ⟨_, _, rfl, rfl⟩
theorem ldMemBcA : Statement .ldMemBcA := fun _ => ⟨_, _, rfl, rfl⟩
theorem incBc : Statement .incBc := fun _ => ⟨_, _, rfl, rfl⟩
theorem incB : Statement .incB := fun _ => ⟨_, _, rfl, rfl⟩
theorem decB : Statement .decB := fun _ => ⟨_, _, rfl, rfl⟩
theorem rlca : Statement .rlca := fun _ => ⟨_, _, rfl, rfl⟩
theorem addHlBc : Statement .addHlBc := fun _ => ⟨_, _, rfl, rfl⟩
theorem ldAMemBc : Statement .ldAMemBc := fun _ => ⟨_, _, rfl, rfl⟩
theorem decBc : Statement .decBc := fun _ => ⟨_, _, rfl, rfl⟩
theorem incC : Statement .incC := fun _ => ⟨_, _, rfl, rfl⟩
theorem decC : Statement .decC := fun _ => ⟨_, _, rfl, rfl⟩
theorem rrca : Statement .rrca := fun _ => ⟨_, _, rfl, rfl⟩
theorem stop : Statement .stop := fun _ => ⟨_, _, rfl, rfl⟩
theorem ldMemDeA : Statement .ldMemDeA := fun _ => ⟨_, _, rfl, rfl⟩
theorem incDe : Statement .incDe := fun _ => ⟨_, _, rfl, rfl⟩
theorem incD : Statement .incD := fun _ => ⟨_, _, rfl, rfl⟩
theorem decD : Statement .decD := fun _ => ⟨_, _, rfl, rfl⟩
theorem rla : Statement .rla := fun _ => ⟨_, _, rfl, rfl⟩
theorem addHlDe : Statement .addHlDe := fun _ => ⟨_, _, rfl, rfl⟩
theorem ldAMemDe : Statement .ldAMemDe := fun _ => ⟨_, _, rfl, rfl⟩
theorem decDe : Statement .decDe := fun _ => ⟨_, _, rfl, rfl⟩
theorem incE : Statement .incE := fun _ => ⟨_, _, rfl, rfl⟩
theorem decE : Statement .decE := fun _ => ⟨_, _, rfl, rfl⟩
theorem rra : Statement .rra := fun _ => ⟨_, _, rfl, rfl⟩
theorem ldMemHlIncA : Statement .ldMemHlIncA := fun _ => ⟨_, _, rfl, rfl⟩
theorem incHl : Statement .incHl := fun _ => ⟨_, _, rfl, rfl⟩
theorem incH : Statement .incH := fun _ => ⟨_, _, rfl, rfl⟩
theorem decH : Statement .decH := fun _ => ⟨_, _, rfl, rfl⟩
theorem daa : Statement .daa := fun _ => ⟨_, _, rfl, rfl⟩
theorem addHlHl : Statement .addHlHl := fun _ => ⟨_, _, rfl, rfl⟩
theorem ldAMemHlInc : Statement .ldAMemHlInc := fun _ => ⟨_, _, rfl, rfl⟩
theorem decHl : Statement .decHl := fun _ => ⟨_, _, rfl, rfl⟩
theorem incL : Statement .incL := fun _ => ⟨_, _, rfl, rfl⟩
theorem decL : Statement .decL := fun _ => ⟨_, _, rfl, rfl⟩
theorem cpl : Statement .cpl := fun _ => ⟨_, _, rfl, rfl⟩
theorem ldMemHlDecA : Statement .ldMemHlDecA := fun _ => ⟨_, _, rfl, rfl⟩
theorem incSp : Statement .incSp := fun _ => ⟨_, _, rfl, rfl⟩
theorem incMemHl : Statement .incMemHl := fun _ => ⟨_, _, rfl, rfl⟩
theorem decMemHl : Statement .decMemHl := fun _ => ⟨_, _, rfl, rfl⟩
theorem scf : Statement .scf := fun _ => ⟨_, _, rfl, rfl⟩
theorem addHlSp : Statement .addHlSp := fun _ => ⟨_, _, rfl, rfl⟩
theorem ldAMemHlDec : Statement .ldAMemHlDec := fun _ => ⟨_, _, rfl, rfl⟩
theorem decSp : Statement .decSp := fun _ => ⟨_, _, rfl, rfl⟩
theorem incA : Statement .incA := fun _ => ⟨_, _, rfl, rfl⟩
theorem decA : Statement .decA := fun _ => ⟨_, _, rfl, rfl⟩
theorem ccf : Statement .ccf := fun _ => ⟨_, _, rfl, rfl⟩
theorem ldBB : Statement .ldBB := fun _ => ⟨_, _, rfl, rfl⟩
theorem ldBC : Statement .ldBC := fun _ => ⟨_, _, rfl, rfl⟩
theorem ldBD : Statement .ldBD := fun _ => ⟨_, _, rfl, rfl⟩
theorem ldBE : Statement .ldBE := fun _ => ⟨_, _, rfl, rfl⟩
theorem ldBH : Statement .ldBH := fun _ => ⟨_, _, rfl, rfl⟩
theorem ldBL : Statement .ldBL := fun _ => ⟨_, _, rfl, rfl⟩
theorem ldBMemHl : Statement .ldBMemHl := fun _ => ⟨_, _, rfl, rfl⟩
theorem ldBA : Statement .ldBA := fun _ => ⟨_, _, rfl, rfl⟩
theorem ldCB : Statement .ldCB := fun _ => ⟨_, _, rfl, rfl⟩
theorem ldCC : Statement .ldCC := fun _ => ⟨_, _, rfl, rfl⟩
theorem ldCD : Statement .ldCD := fun _ => ⟨_, _, rfl, rfl⟩
theorem ldCE : Statement .ldCE := fun _ => ⟨_, _, rfl, rfl⟩
theorem ldCH : Statement .ldCH := fun _ => ⟨_, _, rfl, rfl⟩
theorem ldCL : Statement .ldCL := fun _ => ⟨_, _, rfl, rfl⟩
theorem ldCMemHl : Statement .ldCMemHl := fun _ => ⟨_, _, rfl, rfl⟩
theorem ldCA : Statement .ldCA := fun _ => ⟨_, _, rfl, rfl⟩
theorem ldDB : Statement .ldDB := fun _ => ⟨_, _, rfl, rfl⟩
theorem ldDC : Statement .ldDC := fun _ => ⟨_, _, rfl, rfl⟩
theorem ldDD : Statement .ldDD := fun _ => ⟨_, _, rfl, rfl⟩
theorem ldDE : Statement .ldDE := fun _ => ⟨_, _, rfl, rfl⟩
theorem ldDH : Statement .ldDH := fun _ => ⟨_, _, rfl, rfl⟩
theorem ldDL : Statement .ldDL := fun _ => ⟨_, _, rfl, rfl⟩
theorem ldDMemHl : Statement .ldDMemHl := fun _ => ⟨_, _, rfl, rfl⟩
theorem ldDA : Statement .ldDA := fun _ => ⟨_, _, rfl, rfl⟩
theorem ldEB : Statement .ldEB := fun _ => ⟨_, _, rfl, rfl⟩
theorem ldEC : Statement .ldEC := fun _ => ⟨_, _, rfl, rfl⟩
theorem ldED : Statement .ldED := fun _ => ⟨_, _, rfl, rfl⟩
theorem ldEE : Statement .ldEE := fun _ => ⟨_, _, rfl, rfl⟩
theorem ldEH : Statement .ldEH := fun _ => ⟨_, _, rfl, rfl⟩
theorem ldEL : Statement .ldEL := fun _ => ⟨_, _, rfl, rfl⟩
theorem ldEMemHl : Statement .ldEMemHl := fun _ => ⟨_, _, rfl, rfl⟩
theorem ldEA : Statement .ldEA := fun _ => ⟨_, _, rfl, rfl⟩
theorem ldHB : Statement .ldHB := fun _ => ⟨_, _, rfl, rfl⟩
theorem ldHC : Statement .ldHC := fun _ => ⟨_, _, rfl, rfl⟩
theorem ldHD : Statement .ldHD := fun _ => ⟨_, _, rfl, rfl⟩
theorem ldHE : Statement .ldHE := fun _ => ⟨_, _, rfl, rfl⟩
theorem ldHH : Statement .ldHH := fun _ => ⟨_, _, rfl, rfl⟩
theorem ldHL : Statement .ldHL := fun _ => ⟨_, _, rfl, rfl⟩
theorem ldHMemHl : Statement .ldHMemHl := fun _ => ⟨_, _, rfl, rfl⟩
theorem ldHA : Statement .ldHA := fun _ => ⟨_, _, rfl, rfl⟩
theorem ldLB : Statement .ldLB := fun _ => ⟨_, _, rfl, rfl⟩
theorem ldLC : Statement .ldLC := fun _ => ⟨_, _, rfl, rfl⟩
theorem ldLD : Statement .ldLD := fun _ => ⟨_, _, rfl, rfl⟩
theorem ldLE : Statement .ldLE := fun _ => ⟨_, _, rfl, rfl⟩
theorem ldLH : Statement .ldLH := fun _ => ⟨_, _, rfl, rfl⟩
theorem ldLL : Statement .ldLL := fun _ => ⟨_, _, rfl, rfl⟩
theorem ldLMemHl : Statement .ldLMemHl := fun _ => ⟨_, _, rfl, rfl⟩
theorem ldLA : Statement .ldLA := fun _ => ⟨_, _, rfl, rfl⟩
theorem ldMemHlB : Statement .ldMemHlB := fun _ => ⟨_, _, rfl, rfl⟩
theorem ldMemHlC : Statement .ldMemHlC := fun _ => ⟨_, _, rfl, rfl⟩
theorem ldMemHlD : Statement .ldMemHlD := fun _ => ⟨_, _, rfl, rfl⟩
theorem ldMemHlE : Statement .ldMemHlE := fun _ => ⟨_, _, rfl, rfl⟩
theorem ldMemHlH : Statement .ldMemHlH := fun _ => ⟨_, _, rfl, rfl⟩
theorem ldMemHlL : Statement .ldMemHlL := fun _ => ⟨_, _, rfl, rfl⟩
theorem halt : Statement .halt := fun _ => ⟨_, _, rfl, rfl⟩
theorem ldMemHlA : Statement .ldMemHlA := fun _ => ⟨_, _, rfl, rfl⟩
theorem ldAB : Statement .ldAB := fun _ => ⟨_, _, rfl, rfl⟩
theorem ldAC : Statement .ldAC := fun _ => ⟨_, _, rfl, rfl⟩
theorem ldAD : Statement .ldAD := fun _ => ⟨_, _, rfl, rfl⟩
theorem ldAE : Statement .ldAE := fun _ => ⟨_, _, rfl, rfl⟩
theorem ldAH : Statement .ldAH := fun _ => ⟨_, _, rfl, rfl⟩
theorem ldAL : Statement .ldAL := fun _ => ⟨_, _, rfl, rfl⟩
theorem ldAMemHl : Statement .ldAMemHl := fun _ => ⟨_, _, rfl, rfl⟩
theorem ldAA : Statement .ldAA := fun _ => ⟨_, _, rfl, rfl⟩
theorem addAB : Statement .addAB := fun _ => ⟨_, _, rfl, rfl⟩
theorem addAC : Statement .addAC := fun _ => ⟨_, _, rfl, rfl⟩
theorem addAD : Statement .addAD := fun _ => ⟨_, _, rfl, rfl⟩
theorem addAE : Statement .addAE := fun _ => ⟨_, _, rfl, rfl⟩
theorem addAH : Statement .addAH := fun _ => ⟨_, _, rfl, rfl⟩
theorem addAL : Statement .addAL := fun _ => ⟨_, _, rfl, rfl⟩
theorem addAMemHl : Statement .addAMemHl := fun _ => ⟨_, _, rfl, rfl⟩
theorem addAA : Statement .addAA := fun _ => ⟨_, _, rfl, rfl⟩
theorem adcAB : Statement .adcAB := fun _ => ⟨_, _, rfl, rfl⟩
theorem adcAC : Statement .adcAC := fun _ => ⟨_, _, rfl, rfl⟩
theorem adcAD : Statement .adcAD := fun _ => ⟨_, _, rfl, rfl⟩
theorem adcAE : Statement .adcAE := fun _ => ⟨_, _, rfl, rfl⟩
theorem adcAH : Statement .adcAH := fun _ => ⟨_, _, rfl, rfl⟩
theorem adcAL : Statement .adcAL := fun _ => ⟨_, _, rfl, rfl⟩
theorem adcAMemHl : Statement .adcAMemHl := fun _ => ⟨_, _, rfl, rfl⟩
theorem adcAA : Statement .adcAA := fun _ => ⟨_, _, rfl, rfl⟩
theorem subAB : Statement .subAB := fun _ => ⟨_, _, rfl, rfl⟩
theorem subAC : Statement .subAC := fun _ => ⟨_, _, rfl, rfl⟩
theorem subAD : Statement .subAD := fun _ => ⟨_, _, rfl, rfl⟩
theorem subAE : Statement .subAE := fun _ => ⟨_, _, rfl, rfl⟩
theorem subAH : Statement .subAH := fun _ => ⟨_, _, rfl, rfl⟩
theorem subAL : Statement .subAL := fun _ => ⟨_, _, rfl, rfl⟩
theorem subAMemHl : Statement .subAMemHl := fun _ => ⟨_, _, rfl, rfl⟩
theorem subAA : Statement .subAA := fun _ => ⟨_, _, rfl, rfl⟩
theorem sbcAB : Statement .sbcAB := fun _ => ⟨_, _, rfl, rfl⟩
theorem sbcAC : Statement .sbcAC := fun _ => ⟨_, _, rfl, rfl⟩
theorem sbcAD : Statement .sbcAD := fun _ => ⟨_, _, rfl, rfl⟩
theorem sbcAE : Statement .sbcAE := fun _ => ⟨_, _, rfl, rfl⟩
theorem sbcAH : Statement .sbcAH := fun _ => ⟨_, _, rfl, rfl⟩
theorem sbcAL : Statement .sbcAL := fun _ => ⟨_, _, rfl, rfl⟩
theorem sbcAMemHl : Statement .sbcAMemHl := fun _ => ⟨_, _, rfl, rfl⟩
theorem sbcAA : Statement .sbcAA := fun _ => ⟨_, _, rfl, rfl⟩
theorem andAB : Statement .andAB := fun _ => ⟨_, _, rfl, rfl⟩
theorem andAC : Statement .andAC := fun _ => ⟨_, _, rfl, rfl⟩
theorem andAD : Statement .andAD := fun _ => ⟨_, _, rfl, rfl⟩
theorem andAE : Statement .andAE := fun _ => ⟨_, _, rfl, rfl⟩
theorem andAH : Statement .andAH := fun _ => ⟨_, _, rfl, rfl⟩
theorem andAL : Statement .andAL := fun _ => ⟨_, _, rfl, rfl⟩
theorem andAMemHl : Statement .andAMemHl := fun _ => ⟨_, _, rfl, rfl⟩
theorem andAA : Statement .andAA := fun _ => ⟨_, _, rfl, rfl⟩
theorem xorAB : Statement .xorAB := fun _ => ⟨_, _, rfl, rfl⟩
theorem xorAC : Statement .xorAC := fun _ => ⟨_, _, rfl, rfl⟩
theorem xorAD : Statement .xorAD := fun _ => ⟨_, _, rfl, rfl⟩
theorem xorAE : Statement .xorAE := fun _ => ⟨_, _, rfl, rfl⟩
theorem xorAH : Statement .xorAH := fun _ => ⟨_, _, rfl, rfl⟩
theorem xorAL : Statement .xorAL := fun _ => ⟨_, _, rfl, rfl⟩
theorem xorAMemHl : Statement .xorAMemHl := fun _ => ⟨_, _, rfl, rfl⟩
theorem xorAA : Statement .xorAA := fun _ => ⟨_, _, rfl, rfl⟩
theorem orAB : Statement .orAB := fun _ => ⟨_, _, rfl, rfl⟩
theorem orAC : Statement .orAC := fun _ => ⟨_, _, rfl, rfl⟩
theorem orAD : Statement .orAD := fun _ => ⟨_, _, rfl, rfl⟩
theorem orAE : Statement .orAE := fun _ => ⟨_, _, rfl, rfl⟩
theorem orAH : Statement .orAH := fun _ => ⟨_, _, rfl, rfl⟩
theorem orAL : Statement .orAL := fun _ => ⟨_, _, rfl, rfl⟩
theorem orAMemHl : Statement .orAMemHl := fun _ => ⟨_, _, rfl, rfl⟩
theorem orAA : Statement .orAA := fun _ => ⟨_, _, rfl, rfl⟩
theorem cpAB : Statement .cpAB := fun _ => ⟨_, _, rfl, rfl⟩
theorem cpAC : Statement .cpAC := fun _ => ⟨_, _, rfl, rfl⟩
theorem cpAD : Statement .cpAD := fun _ => ⟨_, _, rfl, rfl⟩
theorem cpAE : Statement .cpAE := fun _ => ⟨_, _, rfl, rfl⟩
theorem cpAH : Statement .cpAH := fun _ => ⟨_, _, rfl, rfl⟩
theorem cpAL : Statement .cpAL := fun _ => ⟨_, _, rfl, rfl⟩
theorem cpAMemHl : Statement .cpAMemHl := fun _ => ⟨_, _, rfl, rfl⟩
theorem cpAA : Statement .cpAA := fun _ => ⟨_, _, rfl, rfl⟩
theorem retNz : Statement .retNz := fun _ => ⟨_, _, rfl, rfl⟩
theorem popBc : Statement .popBc := fun _ => ⟨_, _, rfl, rfl⟩
theorem pushBc : Statement .pushBc := fun _ => ⟨_, _, rfl, rfl⟩
theorem rst00 : Statement .rst00 := fun _ => ⟨_, _, rfl, rfl⟩
theorem retZ : Statement .retZ := fun _ => ⟨_, _, rfl, rfl⟩
theorem ret : Statement .ret := fun _ => ⟨_, _, rfl, rfl⟩
theorem prefixCb : Statement .prefixCb := by
  intro h
  exact absurd h (by decide)
theorem rst08 : Statement .rst08 := fun _ => ⟨_, _, rfl, rfl⟩
theorem retNc : Statement .retNc := fun _ => ⟨_, _, rfl, rfl⟩
theorem popDe : Statement .popDe := fun _ => ⟨_, _, rfl, rfl⟩
theorem undefinedD3 : Statement .undefinedD3 := fun _ => ⟨_, _, rfl, rfl⟩
theorem pushDe : Statement .pushDe := fun _ => ⟨_, _, rfl, rfl⟩
theorem rst10 : Statement .rst10 := fun _ => ⟨_, _, rfl, rfl⟩
theorem retC : Statement .retC := fun _ => ⟨_, _, rfl, rfl⟩
theorem reti : Statement .reti := fun _ => ⟨_, _, rfl, rfl⟩
theorem undefinedDB : Statement .undefinedDB := fun _ => ⟨_, _, rfl, rfl⟩
theorem undefinedDD : Statement .undefinedDD := fun _ => ⟨_, _, rfl, rfl⟩
theorem rst18 : Statement .rst18 := fun _ => ⟨_, _, rfl, rfl⟩
theorem popHl : Statement .popHl := fun _ => ⟨_, _, rfl, rfl⟩
theorem ldhMemCA : Statement .ldhMemCA := fun _ => ⟨_, _, rfl, rfl⟩
theorem undefinedE3 : Statement .undefinedE3 := fun _ => ⟨_, _, rfl, rfl⟩
theorem undefinedE4 : Statement .undefinedE4 := fun _ => ⟨_, _, rfl, rfl⟩
theorem pushHl : Statement .pushHl := fun _ => ⟨_, _, rfl, rfl⟩
theorem rst20 : Statement .rst20 := fun _ => ⟨_, _, rfl, rfl⟩
theorem jpHl : Statement .jpHl := fun _ => ⟨_, _, rfl, rfl⟩
theorem undefinedEB : Statement .undefinedEB := fun _ => ⟨_, _, rfl, rfl⟩
theorem undefinedEC : Statement .undefinedEC := fun _ => ⟨_, _, rfl, rfl⟩
theorem undefinedED : Statement .undefinedED := fun _ => ⟨_, _, rfl, rfl⟩
theorem rst28 : Statement .rst28 := fun _ => ⟨_, _, rfl, rfl⟩
theorem popAf : Statement .popAf := fun _ => ⟨_, _, rfl, rfl⟩
theorem ldhAMemC : Statement .ldhAMemC := fun _ => ⟨_, _, rfl, rfl⟩
theorem di : Statement .di := fun _ => ⟨_, _, rfl, rfl⟩
theorem undefinedF4 : Statement .undefinedF4 := fun _ => ⟨_, _, rfl, rfl⟩
theorem pushAf : Statement .pushAf := fun _ => ⟨_, _, rfl, rfl⟩
theorem rst30 : Statement .rst30 := fun _ => ⟨_, _, rfl, rfl⟩
theorem ldSpHl : Statement .ldSpHl := fun _ => ⟨_, _, rfl, rfl⟩
theorem ei : Statement .ei := fun _ => ⟨_, _, rfl, rfl⟩
theorem undefinedFC : Statement .undefinedFC := fun _ => ⟨_, _, rfl, rfl⟩
theorem undefinedFD : Statement .undefinedFD := fun _ => ⟨_, _, rfl, rfl⟩
theorem rst38 : Statement .rst38 := fun _ => ⟨_, _, rfl, rfl⟩
theorem rlcB : Statement .rlcB := fun _ => ⟨_, _, rfl, rfl⟩
theorem rlcC : Statement .rlcC := fun _ => ⟨_, _, rfl, rfl⟩
theorem rlcD : Statement .rlcD := fun _ => ⟨_, _, rfl, rfl⟩
theorem rlcE : Statement .rlcE := fun _ => ⟨_, _, rfl, rfl⟩
theorem rlcH : Statement .rlcH := fun _ => ⟨_, _, rfl, rfl⟩
theorem rlcL : Statement .rlcL := fun _ => ⟨_, _, rfl, rfl⟩
theorem rlcMemHl : Statement .rlcMemHl := fun _ => ⟨_, _, rfl, rfl⟩
theorem rlcA : Statement .rlcA := fun _ => ⟨_, _, rfl, rfl⟩
theorem rrcB : Statement .rrcB := fun _ => ⟨_, _, rfl, rfl⟩
theorem rrcC : Statement .rrcC := fun _ => ⟨_, _, rfl, rfl⟩
theorem rrcD : Statement .rrcD := fun _ => ⟨_, _, rfl, rfl⟩
theorem rrcE : Statement .rrcE := fun _ => ⟨_, _, rfl, rfl⟩
theorem rrcH : Statement .rrcH := fun _ => ⟨_, _, rfl, rfl⟩
theorem rrcL : Statement .rrcL := fun _ => ⟨_, _, rfl, rfl⟩
theorem rrcMemHl : Statement .rrcMemHl := fun _ => ⟨_, _, rfl, rfl⟩
theorem rrcA : Statement .rrcA := fun _ => ⟨_, _, rfl, rfl⟩
theorem rlB : Statement .rlB := fun _ => ⟨_, _, rfl, rfl⟩
theorem rlC : Statement .rlC := fun _ => ⟨_, _, rfl, rfl⟩
theorem rlD : Statement .rlD := fun _ => ⟨_, _, rfl, rfl⟩
theorem rlE : Statement .rlE := fun _ => ⟨_, _, rfl, rfl⟩
theorem rlH : Statement .rlH := fun _ => ⟨_, _, rfl, rfl⟩
theorem rlL : Statement .rlL := fun _ => ⟨_, _, rfl, rfl⟩
theorem rlMemHl : Statement .rlMemHl := fun _ => ⟨_, _, rfl, rfl⟩
theorem rlA : Statement .rlA := fun _ => ⟨_, _, rfl, rfl⟩
theorem rrB : Statement .rrB := fun _ => ⟨_, _, rfl, rfl⟩
theorem rrC : Statement .rrC := fun _ => ⟨_, _, rfl, rfl⟩
theorem rrD : Statement .rrD := fun _ => ⟨_, _, rfl, rfl⟩
theorem rrE : Statement .rrE := fun _ => ⟨_, _, rfl, rfl⟩
theorem rrH : Statement .rrH := fun _ => ⟨_, _, rfl, rfl⟩
theorem rrL : Statement .rrL := fun _ => ⟨_, _, rfl, rfl⟩
theorem rrMemHl : Statement .rrMemHl := fun _ => ⟨_, _, rfl, rfl⟩
theorem rrA : Statement .rrA := fun _ => ⟨_, _, rfl, rfl⟩
theorem slaB : Statement .slaB := fun _ => ⟨_, _, rfl, rfl⟩
theorem slaC : Statement .slaC := fun _ => ⟨_, _, rfl, rfl⟩
theorem slaD : Statement .slaD := fun _ => ⟨_, _, rfl, rfl⟩
theorem slaE : Statement .slaE := fun _ => ⟨_, _, rfl, rfl⟩
theorem slaH : Statement .slaH := fun _ => ⟨_, _, rfl, rfl⟩
theorem slaL : Statement .slaL := fun _ => ⟨_, _, rfl, rfl⟩
theorem slaMemHl : Statement .slaMemHl := fun _ => ⟨_, _, rfl, rfl⟩
theorem slaA : Statement .slaA := fun _ => ⟨_, _, rfl, rfl⟩
theorem sraB : Statement .sraB := fun _ => ⟨_, _, rfl, rfl⟩
theorem sraC : Statement .sraC := fun _ => ⟨_, _, rfl, rfl⟩
theorem sraD : Statement .sraD := fun _ => ⟨_, _, rfl, rfl⟩
theorem sraE : Statement .sraE := fun _ => ⟨_, _, rfl, rfl⟩
theorem sraH : Statement .sraH := fun _ => ⟨_, _, rfl, rfl⟩
theorem sraL : Statement .sraL := fun _ => ⟨_, _, rfl, rfl⟩
theorem sraMemHl : Statement .sraMemHl := fun _ => ⟨_, _, rfl, rfl⟩
theorem sraA : Statement .sraA := fun _ => ⟨_, _, rfl, rfl⟩
theorem swapB : Statement .swapB := fun _ => ⟨_, _, rfl, rfl⟩
theorem swapC : Statement .swapC := fun _ => ⟨_, _, rfl, rfl⟩
theorem swapD : Statement .swapD := fun _ => ⟨_, _, rfl, rfl⟩
theorem swapE : Statement .swapE := fun _ => ⟨_, _, rfl, rfl⟩
theorem swapH : Statement .swapH := fun _ => ⟨_, _, rfl, rfl⟩
theorem swapL : Statement .swapL := fun _ => ⟨_, _, rfl, rfl⟩
theorem swapMemHl : Statement .swapMemHl := fun _ => ⟨_, _, rfl, rfl⟩
theorem swapA : Statement .swapA := fun _ => ⟨_, _, rfl, rfl⟩
theorem srlB : Statement .srlB := fun _ => ⟨_, _, rfl, rfl⟩
theorem srlC : Statement .srlC := fun _ => ⟨_, _, rfl, rfl⟩
theorem srlD : Statement .srlD := fun _ => ⟨_, _, rfl, rfl⟩
theorem srlE : Statement .srlE := fun _ => ⟨_, _, rfl, rfl⟩
theorem srlH : Statement .srlH := fun _ => ⟨_, _, rfl, rfl⟩
theorem srlL : Statement .srlL := fun _ => ⟨_, _, rfl, rfl⟩
theorem srlMemHl : Statement .srlMemHl := fun _ => ⟨_, _, rfl, rfl⟩
theorem srlA : Statement .srlA := fun _ => ⟨_, _, rfl, rfl⟩
theorem bit0B : Statement .bit0B := fun _ => ⟨_, _, rfl, rfl⟩
theorem bit0C : Statement .bit0C := fun _ => ⟨_, _, rfl, rfl⟩
theorem bit0D : Statement .bit0D := fun _ => ⟨_, _, rfl, rfl⟩
theorem bit0E : Statement .bit0E := fun _ => ⟨_, _, rfl, rfl⟩
theorem bit0H : Statement .bit0H := fun _ => ⟨_, _, rfl, rfl⟩
theorem bit0L : Statement .bit0L := fun _ => ⟨_, _, rfl, rfl⟩
theorem bit0MemHl : Statement .bit0MemHl := fun _ => ⟨_, _, rfl, rfl⟩
theorem bit0A : Statement .bit0A := fun _ => ⟨_, _, rfl, rfl⟩
theorem bit1B : Statement .bit1B := fun _ => ⟨_, _, rfl, rfl⟩
theorem bit1C : Statement .bit1C := fun _ => ⟨_, _, rfl, rfl⟩
theorem bit1D : Statement .bit1D := fun _ => ⟨_, _, rfl, rfl⟩
theorem bit1E : Statement .bit1E := fun _ => ⟨_, _, rfl, rfl⟩
theorem bit1H : Statement .bit1H := fun _ => ⟨_, _, rfl, rfl⟩
theorem bit1L : Statement .bit1L := fun _ => ⟨_, _, rfl, rfl⟩
theorem bit1MemHl : Statement .bit1MemHl := fun _ => ⟨_, _, rfl, rfl⟩
theorem bit1A : Statement .bit1A := fun _ => ⟨_, _, rfl, rfl⟩
theorem bit2B : Statement .bit2B := fun _ => ⟨_, _, rfl, rfl⟩
theorem bit2C : Statement .bit2C := fun _ => ⟨_, _, rfl, rfl⟩
theorem bit2D : Statement .bit2D := fun _ => ⟨_, _, rfl, rfl⟩
theorem bit2E : Statement .bit2E := fun _ => ⟨_, _, rfl, rfl⟩
theorem bit2H : Statement .bit2H := fun _ => ⟨_, _, rfl, rfl⟩
theorem bit2L : Statement .bit2L := fun _ => ⟨_, _, rfl, rfl⟩
theorem bit2MemHl : Statement .bit2MemHl := fun _ => ⟨_, _, rfl, rfl⟩
theorem bit2A : Statement .bit2A := fun _ => ⟨_, _, rfl, rfl⟩
theorem bit3B : Statement .bit3B := fun _ => ⟨_, _, rfl, rfl⟩
theorem bit3C : Statement .bit3C := fun _ => ⟨_, _, rfl, rfl⟩
theorem bit3D : Statement .bit3D := fun _ => ⟨_, _, rfl, rfl⟩
theorem bit3E : Statement .bit3E := fun _ => ⟨_, _, rfl, rfl⟩
theorem bit3H : Statement .bit3H := fun _ => ⟨_, _, rfl, rfl⟩
theorem bit3L : Statement .bit3L := fun _ => ⟨_, _, rfl, rfl⟩
theorem bit3MemHl : Statement .bit3MemHl := fun _ => ⟨_, _, rfl, rfl⟩
theorem bit3A : Statement .bit3A := fun _ => ⟨_, _, rfl, rfl⟩
theorem bit4B : Statement .bit4B := fun _ => ⟨_, _, rfl, rfl⟩
theorem bit4C : Statement .bit4C := fun _ => ⟨_, _, rfl, rfl⟩
theorem bit4D : Statement .bit4D := fun _ => ⟨_, _, rfl, rfl⟩
theorem bit4E : Statement .bit4E := fun _ => ⟨_, _, rfl, rfl⟩
theorem bit4H : Statement .bit4H := fun _ => ⟨_, _, rfl, rfl⟩
theorem bit4L : Statement .bit4L := fun _ => ⟨_, _, rfl, rfl⟩
theorem bit4MemHl : Statement .bit4MemHl := fun _ => ⟨_, _, rfl, rfl⟩
theorem bit4A : Statement .bit4A := fun _ => ⟨_, _, rfl, rfl⟩
theorem bit5B : Statement .bit5B := fun _ => ⟨_, _, rfl, rfl⟩
theorem bit5C : Statement .bit5C := fun _ => ⟨_, _, rfl, rfl⟩
theorem bit5D : Statement .bit5D := fun _ => ⟨_, _, rfl, rfl⟩
theorem bit5E : Statement .bit5E := fun _ => ⟨_, _, rfl, rfl⟩
theorem bit5H : Statement .bit5H := fun _ => ⟨_, _, rfl, rfl⟩
theorem bit5L : Statement .bit5L := fun _ => ⟨_, _, rfl, rfl⟩
theorem bit5MemHl : Statement .bit5MemHl := fun _ => ⟨_, _, rfl, rfl⟩
theorem bit5A : Statement .bit5A := fun _ => ⟨_, _, rfl, rfl⟩
theorem bit6B : Statement .bit6B := fun _ => ⟨_, _, rfl, rfl⟩
theorem bit6C : Statement .bit6C := fun _ => ⟨_, _, rfl, rfl⟩
theorem bit6D : Statement .bit6D := fun _ => ⟨_, _, rfl, rfl⟩
theorem bit6E : Statement .bit6E := fun _ => ⟨_, _, rfl, rfl⟩
theorem bit6H : Statement .bit6H := fun _ => ⟨_, _, rfl, rfl⟩
theorem bit6L : Statement .bit6L := fun _ => ⟨_, _, rfl, rfl⟩
theorem bit6MemHl : Statement .bit6MemHl := fun _ => ⟨_, _, rfl, rfl⟩
theorem bit6A : Statement .bit6A := fun _ => ⟨_, _, rfl, rfl⟩
theorem bit7B : Statement .bit7B := fun _ => ⟨_, _, rfl, rfl⟩
theorem bit7C : Statement .bit7C := fun _ => ⟨_, _, rfl, rfl⟩
theorem bit7D : Statement .bit7D := fun _ => ⟨_, _, rfl, rfl⟩
theorem bit7E : Statement .bit7E := fun _ => ⟨_, _, rfl, rfl⟩
theorem bit7H : Statement .bit7H := fun _ => ⟨_, _, rfl, rfl⟩
theorem bit7L : Statement .bit7L := fun _ => ⟨_, _, rfl, rfl⟩
theorem bit7MemHl : Statement .bit7MemHl := fun _ => ⟨_, _, rfl, rfl⟩
theorem bit7A : Statement .bit7A := fun _ => ⟨_, _, rfl, rfl⟩
theorem res0B : Statement .res0B := fun _ => ⟨_, _, rfl, rfl⟩
theorem res0C : Statement .res0C := fun _ => ⟨_, _, rfl, rfl⟩
theorem res0D : Statement .res0D := fun _ => ⟨_, _, rfl, rfl⟩
theorem res0E : Statement .res0E := fun _ => ⟨_, _, rfl, rfl⟩
theorem res0H : Statement .res0H := fun _ => ⟨_, _, rfl, rfl⟩
theorem res0L : Statement .res0L := fun _ => ⟨_, _, rfl, rfl⟩
theorem res0MemHl : Statement .res0MemHl := fun _ => ⟨_, _, rfl, rfl⟩
theorem res0A : Statement .res0A := fun _ => ⟨_, _, rfl, rfl⟩
theorem res1B : Statement .res1B := fun _ => ⟨_, _, rfl, rfl⟩
theorem res1C : Statement .res1C := fun _ => ⟨_, _, rfl, rfl⟩
theorem res1D : Statement .res1D := fun _ => ⟨_, _, rfl, rfl⟩
theorem res1E : Statement .res1E := fun _ => ⟨_, _, rfl, rfl⟩
theorem res1H : Statement .res1H := fun _ => ⟨_, _, rfl, rfl⟩
theorem res1L : Statement .res1L := fun _ => ⟨_, _, rfl, rfl⟩
theorem res1MemHl : Statement .res1MemHl := fun _ => ⟨_, _, rfl, rfl⟩
theorem res1A : Statement .res1A := fun _ => ⟨_, _, rfl, rfl⟩
theorem res2B : Statement .res2B := fun _ => ⟨_, _, rfl, rfl⟩
theorem res2C : Statement .res2C := fun _ => ⟨_, _, rfl, rfl⟩
theorem res2D : Statement .res2D := fun _ => ⟨_, _, rfl, rfl⟩
theorem res2E : Statement .res2E := fun _ => ⟨_, _, rfl, rfl⟩
theorem res2H : Statement .res2H := fun _ => ⟨_, _, rfl, rfl⟩
theorem res2L : Statement .res2L := fun _ => ⟨_, _, rfl, rfl⟩
theorem res2MemHl : Statement .res2MemHl := fun _ => ⟨_, _, rfl, rfl⟩
theorem res2A : Statement .res2A := fun _ => ⟨_, _, rfl, rfl⟩
theorem res3B : Statement .res3B := fun _ => ⟨_, _, rfl, rfl⟩
theorem res3C : Statement .res3C := fun _ => ⟨_, _, rfl, rfl⟩
theorem res3D : Statement .res3D := fun _ => ⟨_, _, rfl, rfl⟩
theorem res3E : Statement .res3E := fun _ => ⟨_, _, rfl, rfl⟩
theorem res3H : Statement .res3H := fun _ => ⟨_, _, rfl, rfl⟩
theorem res3L : Statement .res3L := fun _ => ⟨_, _, rfl, rfl⟩
theorem res3MemHl : Statement .res3MemHl := fun _ => ⟨_, _, rfl, rfl⟩
theorem res3A : Statement .res3A := fun _ => ⟨_, _, rfl, rfl⟩
theorem res4B : Statement .res4B := fun _ => ⟨_, _, rfl, rfl⟩
theorem res4C : Statement .res4C := fun _ => ⟨_, _, rfl, rfl⟩
theorem res4D : Statement .res4D := fun _ => ⟨_, _, rfl, rfl⟩
theorem res4E : Statement .res4E := fun _ => ⟨_, _, rfl, rfl⟩
theorem res4H : Statement .res4H := fun _ => ⟨_, _, rfl, rfl⟩
theorem res4L : Statement .res4L := fun _ => ⟨_, _, rfl, rfl⟩
theorem res4MemHl : Statement .res4MemHl := fun _ => ⟨_, _, rfl, rfl⟩
theorem res4A : Statement .res4A := fun _ => ⟨_, _, rfl, rfl⟩
theorem res5B : Statement .res5B := fun _ => ⟨_, _, rfl, rfl⟩
theorem res5C : Statement .res5C := fun _ => ⟨_, _, rfl, rfl⟩
theorem res5D : Statement .res5D := fun _ => ⟨_, _, rfl, rfl⟩
theorem res5E : Statement .res5E := fun _ => ⟨_, _, rfl, rfl⟩
theorem res5H : Statement .res5H := fun _ => ⟨_, _, rfl, rfl⟩
theorem res5L : Statement .res5L := fun _ => ⟨_, _, rfl, rfl⟩
theorem res5MemHl : Statement .res5MemHl := fun _ => ⟨_, _, rfl, rfl⟩
theorem res5A : Statement .res5A := fun _ => ⟨_, _, rfl, rfl⟩
theorem res6B : Statement .res6B := fun _ => ⟨_, _, rfl, rfl⟩
theorem res6C : Statement .res6C := fun _ => ⟨_, _, rfl, rfl⟩
theorem res6D : Statement .res6D := fun _ => ⟨_, _, rfl, rfl⟩
theorem res6E : Statement .res6E := fun _ => ⟨_, _, rfl, rfl⟩
theorem res6H : Statement .res6H := fun _ => ⟨_, _, rfl, rfl⟩
theorem res6L : Statement .res6L := fun _ => ⟨_, _, rfl, rfl⟩
theorem res6MemHl : Statement .res6MemHl := fun _ => ⟨_, _, rfl, rfl⟩
theorem res6A : Statement .res6A := fun _ => ⟨_, _, rfl, rfl⟩
theorem res7B : Statement .res7B := fun _ => ⟨_, _, rfl, rfl⟩
theorem res7C : Statement .res7C := fun _ => ⟨_, _, rfl, rfl⟩
theorem res7D : Statement .res7D := fun _ => ⟨_, _, rfl, rfl⟩
theorem res7E : Statement .res7E := fun _ => ⟨_, _, rfl, rfl⟩
theorem res7H : Statement .res7H := fun _ => ⟨_, _, rfl, rfl⟩
theorem res7L : Statement .res7L := fun _ => ⟨_, _, rfl, rfl⟩
theorem res7MemHl : Statement .res7MemHl := fun _ => ⟨_, _, rfl, rfl⟩
theorem res7A : Statement .res7A := fun _ => ⟨_, _, rfl, rfl⟩
theorem set0B : Statement .set0B := fun _ => ⟨_, _, rfl, rfl⟩
theorem set0C : Statement .set0C := fun _ => ⟨_, _, rfl, rfl⟩
theorem set0D : Statement .set0D := fun _ => ⟨_, _, rfl, rfl⟩
theorem set0E : Statement .set0E := fun _ => ⟨_, _, rfl, rfl⟩
theorem set0H : Statement .set0H := fun _ => ⟨_, _, rfl, rfl⟩
theorem set0L : Statement .set0L := fun _ => ⟨_, _, rfl, rfl⟩
theorem set0MemHl : Statement .set0MemHl := fun _ => ⟨_, _, rfl, rfl⟩
theorem set0A : Statement .set0A := fun _ => ⟨_, _, rfl, rfl⟩
theorem set1B : Statement .set1B := fun _ => ⟨_, _, rfl, rfl⟩
theorem set1C : Statement .set1C := fun _ => ⟨_, _, rfl, rfl⟩
theorem set1D : Statement .set1D := fun _ => ⟨_, _, rfl, rfl⟩
theorem set1E : Statement .set1E := fun _ => ⟨_, _, rfl, rfl⟩
theorem set1H : Statement .set1H := fun _ => ⟨_, _, rfl, rfl⟩
theorem set1L : Statement .set1L := fun _ => ⟨_, _, rfl, rfl⟩
theorem set1MemHl : Statement .set1MemHl := fun _ => ⟨_, _, rfl, rfl⟩
theorem set1A : Statement .set1A := fun _ => ⟨_, _, rfl, rfl⟩
theorem set2B : Statement .set2B := fun _ => ⟨_, _, rfl, rfl⟩
theorem set2C : Statement .set2C := fun _ => ⟨_, _, rfl, rfl⟩
theorem set2D : Statement .set2D := fun _ => ⟨_, _, rfl, rfl⟩
theorem set2E : Statement .set2E := fun _ => ⟨_, _, rfl, rfl⟩
theorem set2H : Statement .set2H := fun _ => ⟨_, _, rfl, rfl⟩
theorem set2L : Statement .set2L := fun _ => ⟨_, _, rfl, rfl⟩
theorem set2MemHl : Statement .set2MemHl := fun _ => ⟨_, _, rfl, rfl⟩
theorem set2A : Statement .set2A := fun _ => ⟨_, _, rfl, rfl⟩
theorem set3B : Statement .set3B := fun _ => ⟨_, _, rfl, rfl⟩
theorem set3C : Statement .set3C := fun _ => ⟨_, _, rfl, rfl⟩
theorem set3D : Statement .set3D := fun _ => ⟨_, _, rfl, rfl⟩
theorem set3E : Statement .set3E := fun _ => ⟨_, _, rfl, rfl⟩
theorem set3H : Statement .set3H := fun _ => ⟨_, _, rfl, rfl⟩
theorem set3L : Statement .set3L := fun _ => ⟨_, _, rfl, rfl⟩
theorem set3MemHl : Statement .set3MemHl := fun _ => ⟨_, _, rfl, rfl⟩
theorem set3A : Statement .set3A := fun _ => ⟨_, _, rfl, rfl⟩
theorem set4B : Statement .set4B := fun _ => ⟨_, _, rfl, rfl⟩
theorem set4C : Statement .set4C := fun _ => ⟨_, _, rfl, rfl⟩
theorem set4D : Statement .set4D := fun _ => ⟨_, _, rfl, rfl⟩
theorem set4E : Statement .set4E := fun _ => ⟨_, _, rfl, rfl⟩
theorem set4H : Statement .set4H := fun _ => ⟨_, _, rfl, rfl⟩
theorem set4L : Statement .set4L := fun _ => ⟨_, _, rfl, rfl⟩
theorem set4MemHl : Statement .set4MemHl := fun _ => ⟨_, _, rfl, rfl⟩
theorem set4A : Statement .set4A := fun _ => ⟨_, _, rfl, rfl⟩
theorem set5B : Statement .set5B := fun _ => ⟨_, _, rfl, rfl⟩
theorem set5C : Statement .set5C := fun _ => ⟨_, _, rfl, rfl⟩
theorem set5D : Statement .set5D := fun _ => ⟨_, _, rfl, rfl⟩
theorem set5E : Statement .set5E := fun _ => ⟨_, _, rfl, rfl⟩
theorem set5H : Statement .set5H := fun _ => ⟨_, _, rfl, rfl⟩
theorem set5L : Statement .set5L := fun _ => ⟨_, _, rfl, rfl⟩
theorem set5MemHl : Statement .set5MemHl := fun _ => ⟨_, _, rfl, rfl⟩
theorem set5A : Statement .set5A := fun _ => ⟨_, _, rfl, rfl⟩
theorem set6B : Statement .set6B := fun _ => ⟨_, _, rfl, rfl⟩
theorem set6C : Statement .set6C := fun _ => ⟨_, _, rfl, rfl⟩
theorem set6D : Statement .set6D := fun _ => ⟨_, _, rfl, rfl⟩
theorem set6E : Statement .set6E := fun _ => ⟨_, _, rfl, rfl⟩
theorem set6H : Statement .set6H := fun _ => ⟨_, _, rfl, rfl⟩
theorem set6L : Statement .set6L := fun _ => ⟨_, _, rfl, rfl⟩
theorem set6MemHl : Statement .set6MemHl := fun _ => ⟨_, _, rfl, rfl⟩
theorem set6A : Statement .set6A := fun _ => ⟨_, _, rfl, rfl⟩
theorem set7B : Statement .set7B := fun _ => ⟨_, _, rfl, rfl⟩
theorem set7C : Statement .set7C := fun _ => ⟨_, _, rfl, rfl⟩
theorem set7D : Statement .set7D := fun _ => ⟨_, _, rfl, rfl⟩
theorem set7E : Statement .set7E := fun _ => ⟨_, _, rfl, rfl⟩
theorem set7H : Statement .set7H := fun _ => ⟨_, _, rfl, rfl⟩
theorem set7L : Statement .set7L := fun _ => ⟨_, _, rfl, rfl⟩
theorem set7MemHl : Statement .set7MemHl := fun _ => ⟨_, _, rfl, rfl⟩
theorem set7A : Statement .set7A := fun _ => ⟨_, _, rfl, rfl⟩

end Sys2Proof.Laws.ByteLength
end

