-- ==== Sys2Proof/Tests/Slice0.lean ====
section
/-! SUPPORT. Tests. Expected values come from the spec: the words from the `encoding` of each row of opcode_table.json, the steps
from the vectors of 95_test_vectors.md (named by their number) and the examples of the rules. Then, for every obligation that has
premises, a concrete state and operands that meet them. -/

namespace Sys2Proof.Tests

open Sys2Proof Sys2Proof.Machine

/-! ## WellFormed: the one check, and what it refuses -/

theorem test_wellFormed_refuses_the_bare_prefix : WellFormed .prefixCb = false := by decide
theorem test_wellFormed_accepts_undefined_opcodes : Instr.undefinedOpcodes.all WellFormed = true := by decide
theorem test_wellFormed_accepts_immediates :
    [Instr.ldBN 0xFF#8, .jpNn 0xFFFF#16, .jrE 0x80#8, .bit7MemHl, .halt, .stop].all WellFormed = true := by decide

/-! ## Decoding: every row's word, with 0x34 and 0x12 as the bytes that follow -/

theorem test_decode_base_0x : ([
      0b00000000, 0b00000001, 0b00000010, 0b00000011, 0b00000100, 0b00000101, 0b00000110, 0b00000111, 0b00001000,
      0b00001001, 0b00001010, 0b00001011, 0b00001100, 0b00001101, 0b00001110, 0b00001111] : List Byte).map (fun b => decode3 b 0x34 0x12) = [
      .nop, .ldBcNn 0x1234, .ldMemBcA, .incBc, .incB, .decB, .ldBN 0x34, .rlca, .ldMemNnSp 0x1234, .addHlBc, .ldAMemBc,
      .decBc, .incC, .decC, .ldCN 0x34, .rrca] := by decide

theorem test_decode_base_1x : ([
      0b00010000, 0b00010001, 0b00010010, 0b00010011, 0b00010100, 0b00010101, 0b00010110, 0b00010111, 0b00011000,
      0b00011001, 0b00011010, 0b00011011, 0b00011100, 0b00011101, 0b00011110, 0b00011111] : List Byte).map (fun b => decode3 b 0x34 0x12) = [
      .stop, .ldDeNn 0x1234, .ldMemDeA, .incDe, .incD, .decD, .ldDN 0x34, .rla, .jrE 0x34, .addHlDe, .ldAMemDe, .decDe,
      .incE, .decE, .ldEN 0x34, .rra] := by decide

theorem test_decode_base_2x : ([
      0b00100000, 0b00100001, 0b00100010, 0b00100011, 0b00100100, 0b00100101, 0b00100110, 0b00100111, 0b00101000,
      0b00101001, 0b00101010, 0b00101011, 0b00101100, 0b00101101, 0b00101110, 0b00101111] : List Byte).map (fun b => decode3 b 0x34 0x12) = [
      .jrNzE 0x34, .ldHlNn 0x1234, .ldMemHlIncA, .incHl, .incH, .decH, .ldHN 0x34, .daa, .jrZE 0x34, .addHlHl,
      .ldAMemHlInc, .decHl, .incL, .decL, .ldLN 0x34, .cpl] := by decide

theorem test_decode_base_3x : ([
      0b00110000, 0b00110001, 0b00110010, 0b00110011, 0b00110100, 0b00110101, 0b00110110, 0b00110111, 0b00111000,
      0b00111001, 0b00111010, 0b00111011, 0b00111100, 0b00111101, 0b00111110, 0b00111111] : List Byte).map (fun b => decode3 b 0x34 0x12) = [
      .jrNcE 0x34, .ldSpNn 0x1234, .ldMemHlDecA, .incSp, .incMemHl, .decMemHl, .ldMemHlN 0x34, .scf, .jrCE 0x34, .addHlSp,
      .ldAMemHlDec, .decSp, .incA, .decA, .ldAN 0x34, .ccf] := by decide

theorem test_decode_base_4x : ([
      0b01000000, 0b01000001, 0b01000010, 0b01000011, 0b01000100, 0b01000101, 0b01000110, 0b01000111, 0b01001000,
      0b01001001, 0b01001010, 0b01001011, 0b01001100, 0b01001101, 0b01001110, 0b01001111] : List Byte).map (fun b => decode3 b 0x34 0x12) = [
      .ldBB, .ldBC, .ldBD, .ldBE, .ldBH, .ldBL, .ldBMemHl, .ldBA, .ldCB, .ldCC, .ldCD, .ldCE, .ldCH, .ldCL, .ldCMemHl, .ldCA] := by decide

theorem test_decode_base_5x : ([
      0b01010000, 0b01010001, 0b01010010, 0b01010011, 0b01010100, 0b01010101, 0b01010110, 0b01010111, 0b01011000,
      0b01011001, 0b01011010, 0b01011011, 0b01011100, 0b01011101, 0b01011110, 0b01011111] : List Byte).map (fun b => decode3 b 0x34 0x12) = [
      .ldDB, .ldDC, .ldDD, .ldDE, .ldDH, .ldDL, .ldDMemHl, .ldDA, .ldEB, .ldEC, .ldED, .ldEE, .ldEH, .ldEL, .ldEMemHl, .ldEA] := by decide

theorem test_decode_base_6x : ([
      0b01100000, 0b01100001, 0b01100010, 0b01100011, 0b01100100, 0b01100101, 0b01100110, 0b01100111, 0b01101000,
      0b01101001, 0b01101010, 0b01101011, 0b01101100, 0b01101101, 0b01101110, 0b01101111] : List Byte).map (fun b => decode3 b 0x34 0x12) = [
      .ldHB, .ldHC, .ldHD, .ldHE, .ldHH, .ldHL, .ldHMemHl, .ldHA, .ldLB, .ldLC, .ldLD, .ldLE, .ldLH, .ldLL, .ldLMemHl, .ldLA] := by decide

theorem test_decode_base_7x : ([
      0b01110000, 0b01110001, 0b01110010, 0b01110011, 0b01110100, 0b01110101, 0b01110110, 0b01110111, 0b01111000,
      0b01111001, 0b01111010, 0b01111011, 0b01111100, 0b01111101, 0b01111110, 0b01111111] : List Byte).map (fun b => decode3 b 0x34 0x12) = [
      .ldMemHlB, .ldMemHlC, .ldMemHlD, .ldMemHlE, .ldMemHlH, .ldMemHlL, .halt, .ldMemHlA, .ldAB, .ldAC, .ldAD, .ldAE,
      .ldAH, .ldAL, .ldAMemHl, .ldAA] := by decide

theorem test_decode_base_8x : ([
      0b10000000, 0b10000001, 0b10000010, 0b10000011, 0b10000100, 0b10000101, 0b10000110, 0b10000111, 0b10001000,
      0b10001001, 0b10001010, 0b10001011, 0b10001100, 0b10001101, 0b10001110, 0b10001111] : List Byte).map (fun b => decode3 b 0x34 0x12) = [
      .addAB, .addAC, .addAD, .addAE, .addAH, .addAL, .addAMemHl, .addAA, .adcAB, .adcAC, .adcAD, .adcAE, .adcAH, .adcAL,
      .adcAMemHl, .adcAA] := by decide

theorem test_decode_base_9x : ([
      0b10010000, 0b10010001, 0b10010010, 0b10010011, 0b10010100, 0b10010101, 0b10010110, 0b10010111, 0b10011000,
      0b10011001, 0b10011010, 0b10011011, 0b10011100, 0b10011101, 0b10011110, 0b10011111] : List Byte).map (fun b => decode3 b 0x34 0x12) = [
      .subAB, .subAC, .subAD, .subAE, .subAH, .subAL, .subAMemHl, .subAA, .sbcAB, .sbcAC, .sbcAD, .sbcAE, .sbcAH, .sbcAL,
      .sbcAMemHl, .sbcAA] := by decide

theorem test_decode_base_Ax : ([
      0b10100000, 0b10100001, 0b10100010, 0b10100011, 0b10100100, 0b10100101, 0b10100110, 0b10100111, 0b10101000,
      0b10101001, 0b10101010, 0b10101011, 0b10101100, 0b10101101, 0b10101110, 0b10101111] : List Byte).map (fun b => decode3 b 0x34 0x12) = [
      .andAB, .andAC, .andAD, .andAE, .andAH, .andAL, .andAMemHl, .andAA, .xorAB, .xorAC, .xorAD, .xorAE, .xorAH, .xorAL,
      .xorAMemHl, .xorAA] := by decide

theorem test_decode_base_Bx : ([
      0b10110000, 0b10110001, 0b10110010, 0b10110011, 0b10110100, 0b10110101, 0b10110110, 0b10110111, 0b10111000,
      0b10111001, 0b10111010, 0b10111011, 0b10111100, 0b10111101, 0b10111110, 0b10111111] : List Byte).map (fun b => decode3 b 0x34 0x12) = [
      .orAB, .orAC, .orAD, .orAE, .orAH, .orAL, .orAMemHl, .orAA, .cpAB, .cpAC, .cpAD, .cpAE, .cpAH, .cpAL, .cpAMemHl, .cpAA] := by decide

theorem test_decode_base_Cx : ([
      0b11000000, 0b11000001, 0b11000010, 0b11000011, 0b11000100, 0b11000101, 0b11000110, 0b11000111, 0b11001000,
      0b11001001, 0b11001010, 0b11001011, 0b11001100, 0b11001101, 0b11001110, 0b11001111] : List Byte).map (fun b => decode3 b 0x34 0x12) = [
      .retNz, .popBc, .jpNzNn 0x1234, .jpNn 0x1234, .callNzNn 0x1234, .pushBc, .addAN 0x34, .rst00, .retZ, .ret,
      .jpZNn 0x1234, cbInstr 0x34, .callZNn 0x1234, .callNn 0x1234, .adcAN 0x34, .rst08] := by decide

theorem test_decode_base_Dx : ([
      0b11010000, 0b11010001, 0b11010010, 0b11010011, 0b11010100, 0b11010101, 0b11010110, 0b11010111, 0b11011000,
      0b11011001, 0b11011010, 0b11011011, 0b11011100, 0b11011101, 0b11011110, 0b11011111] : List Byte).map (fun b => decode3 b 0x34 0x12) = [
      .retNc, .popDe, .jpNcNn 0x1234, .undefinedD3, .callNcNn 0x1234, .pushDe, .subAN 0x34, .rst10, .retC, .reti,
      .jpCNn 0x1234, .undefinedDB, .callCNn 0x1234, .undefinedDD, .sbcAN 0x34, .rst18] := by decide

theorem test_decode_base_Ex : ([
      0b11100000, 0b11100001, 0b11100010, 0b11100011, 0b11100100, 0b11100101, 0b11100110, 0b11100111, 0b11101000,
      0b11101001, 0b11101010, 0b11101011, 0b11101100, 0b11101101, 0b11101110, 0b11101111] : List Byte).map (fun b => decode3 b 0x34 0x12) = [
      .ldhMemNA 0x34, .popHl, .ldhMemCA, .undefinedE3, .undefinedE4, .pushHl, .andAN 0x34, .rst20, .addSpE 0x34, .jpHl,
      .ldMemNnA 0x1234, .undefinedEB, .undefinedEC, .undefinedED, .xorAN 0x34, .rst28] := by decide

theorem test_decode_base_Fx : ([
      0b11110000, 0b11110001, 0b11110010, 0b11110011, 0b11110100, 0b11110101, 0b11110110, 0b11110111, 0b11111000,
      0b11111001, 0b11111010, 0b11111011, 0b11111100, 0b11111101, 0b11111110, 0b11111111] : List Byte).map (fun b => decode3 b 0x34 0x12) = [
      .ldhAMemN 0x34, .popAf, .ldhAMemC, .di, .undefinedF4, .pushAf, .orAN 0x34, .rst30, .ldHlSpE 0x34, .ldSpHl,
      .ldAMemNn 0x1234, .ei, .undefinedFC, .undefinedFD, .cpAN 0x34, .rst38] := by decide

theorem test_decode_cb_0x : ([
      0b00000000, 0b00000001, 0b00000010, 0b00000011, 0b00000100, 0b00000101, 0b00000110, 0b00000111, 0b00001000,
      0b00001001, 0b00001010, 0b00001011, 0b00001100, 0b00001101, 0b00001110, 0b00001111] : List Byte).map (fun b => decode3 0b11001011 b 0x12) = [
      .rlcB, .rlcC, .rlcD, .rlcE, .rlcH, .rlcL, .rlcMemHl, .rlcA, .rrcB, .rrcC, .rrcD, .rrcE, .rrcH, .rrcL, .rrcMemHl, .rrcA] := by decide

theorem test_decode_cb_1x : ([
      0b00010000, 0b00010001, 0b00010010, 0b00010011, 0b00010100, 0b00010101, 0b00010110, 0b00010111, 0b00011000,
      0b00011001, 0b00011010, 0b00011011, 0b00011100, 0b00011101, 0b00011110, 0b00011111] : List Byte).map (fun b => decode3 0b11001011 b 0x12) = [
      .rlB, .rlC, .rlD, .rlE, .rlH, .rlL, .rlMemHl, .rlA, .rrB, .rrC, .rrD, .rrE, .rrH, .rrL, .rrMemHl, .rrA] := by decide

theorem test_decode_cb_2x : ([
      0b00100000, 0b00100001, 0b00100010, 0b00100011, 0b00100100, 0b00100101, 0b00100110, 0b00100111, 0b00101000,
      0b00101001, 0b00101010, 0b00101011, 0b00101100, 0b00101101, 0b00101110, 0b00101111] : List Byte).map (fun b => decode3 0b11001011 b 0x12) = [
      .slaB, .slaC, .slaD, .slaE, .slaH, .slaL, .slaMemHl, .slaA, .sraB, .sraC, .sraD, .sraE, .sraH, .sraL, .sraMemHl, .sraA] := by decide

theorem test_decode_cb_3x : ([
      0b00110000, 0b00110001, 0b00110010, 0b00110011, 0b00110100, 0b00110101, 0b00110110, 0b00110111, 0b00111000,
      0b00111001, 0b00111010, 0b00111011, 0b00111100, 0b00111101, 0b00111110, 0b00111111] : List Byte).map (fun b => decode3 0b11001011 b 0x12) = [
      .swapB, .swapC, .swapD, .swapE, .swapH, .swapL, .swapMemHl, .swapA, .srlB, .srlC, .srlD, .srlE, .srlH, .srlL,
      .srlMemHl, .srlA] := by decide

theorem test_decode_cb_4x : ([
      0b01000000, 0b01000001, 0b01000010, 0b01000011, 0b01000100, 0b01000101, 0b01000110, 0b01000111, 0b01001000,
      0b01001001, 0b01001010, 0b01001011, 0b01001100, 0b01001101, 0b01001110, 0b01001111] : List Byte).map (fun b => decode3 0b11001011 b 0x12) = [
      .bit0B, .bit0C, .bit0D, .bit0E, .bit0H, .bit0L, .bit0MemHl, .bit0A, .bit1B, .bit1C, .bit1D, .bit1E, .bit1H, .bit1L,
      .bit1MemHl, .bit1A] := by decide

theorem test_decode_cb_5x : ([
      0b01010000, 0b01010001, 0b01010010, 0b01010011, 0b01010100, 0b01010101, 0b01010110, 0b01010111, 0b01011000,
      0b01011001, 0b01011010, 0b01011011, 0b01011100, 0b01011101, 0b01011110, 0b01011111] : List Byte).map (fun b => decode3 0b11001011 b 0x12) = [
      .bit2B, .bit2C, .bit2D, .bit2E, .bit2H, .bit2L, .bit2MemHl, .bit2A, .bit3B, .bit3C, .bit3D, .bit3E, .bit3H, .bit3L,
      .bit3MemHl, .bit3A] := by decide

theorem test_decode_cb_6x : ([
      0b01100000, 0b01100001, 0b01100010, 0b01100011, 0b01100100, 0b01100101, 0b01100110, 0b01100111, 0b01101000,
      0b01101001, 0b01101010, 0b01101011, 0b01101100, 0b01101101, 0b01101110, 0b01101111] : List Byte).map (fun b => decode3 0b11001011 b 0x12) = [
      .bit4B, .bit4C, .bit4D, .bit4E, .bit4H, .bit4L, .bit4MemHl, .bit4A, .bit5B, .bit5C, .bit5D, .bit5E, .bit5H, .bit5L,
      .bit5MemHl, .bit5A] := by decide

theorem test_decode_cb_7x : ([
      0b01110000, 0b01110001, 0b01110010, 0b01110011, 0b01110100, 0b01110101, 0b01110110, 0b01110111, 0b01111000,
      0b01111001, 0b01111010, 0b01111011, 0b01111100, 0b01111101, 0b01111110, 0b01111111] : List Byte).map (fun b => decode3 0b11001011 b 0x12) = [
      .bit6B, .bit6C, .bit6D, .bit6E, .bit6H, .bit6L, .bit6MemHl, .bit6A, .bit7B, .bit7C, .bit7D, .bit7E, .bit7H, .bit7L,
      .bit7MemHl, .bit7A] := by decide

theorem test_decode_cb_8x : ([
      0b10000000, 0b10000001, 0b10000010, 0b10000011, 0b10000100, 0b10000101, 0b10000110, 0b10000111, 0b10001000,
      0b10001001, 0b10001010, 0b10001011, 0b10001100, 0b10001101, 0b10001110, 0b10001111] : List Byte).map (fun b => decode3 0b11001011 b 0x12) = [
      .res0B, .res0C, .res0D, .res0E, .res0H, .res0L, .res0MemHl, .res0A, .res1B, .res1C, .res1D, .res1E, .res1H, .res1L,
      .res1MemHl, .res1A] := by decide

theorem test_decode_cb_9x : ([
      0b10010000, 0b10010001, 0b10010010, 0b10010011, 0b10010100, 0b10010101, 0b10010110, 0b10010111, 0b10011000,
      0b10011001, 0b10011010, 0b10011011, 0b10011100, 0b10011101, 0b10011110, 0b10011111] : List Byte).map (fun b => decode3 0b11001011 b 0x12) = [
      .res2B, .res2C, .res2D, .res2E, .res2H, .res2L, .res2MemHl, .res2A, .res3B, .res3C, .res3D, .res3E, .res3H, .res3L,
      .res3MemHl, .res3A] := by decide

theorem test_decode_cb_Ax : ([
      0b10100000, 0b10100001, 0b10100010, 0b10100011, 0b10100100, 0b10100101, 0b10100110, 0b10100111, 0b10101000,
      0b10101001, 0b10101010, 0b10101011, 0b10101100, 0b10101101, 0b10101110, 0b10101111] : List Byte).map (fun b => decode3 0b11001011 b 0x12) = [
      .res4B, .res4C, .res4D, .res4E, .res4H, .res4L, .res4MemHl, .res4A, .res5B, .res5C, .res5D, .res5E, .res5H, .res5L,
      .res5MemHl, .res5A] := by decide

theorem test_decode_cb_Bx : ([
      0b10110000, 0b10110001, 0b10110010, 0b10110011, 0b10110100, 0b10110101, 0b10110110, 0b10110111, 0b10111000,
      0b10111001, 0b10111010, 0b10111011, 0b10111100, 0b10111101, 0b10111110, 0b10111111] : List Byte).map (fun b => decode3 0b11001011 b 0x12) = [
      .res6B, .res6C, .res6D, .res6E, .res6H, .res6L, .res6MemHl, .res6A, .res7B, .res7C, .res7D, .res7E, .res7H, .res7L,
      .res7MemHl, .res7A] := by decide

theorem test_decode_cb_Cx : ([
      0b11000000, 0b11000001, 0b11000010, 0b11000011, 0b11000100, 0b11000101, 0b11000110, 0b11000111, 0b11001000,
      0b11001001, 0b11001010, 0b11001011, 0b11001100, 0b11001101, 0b11001110, 0b11001111] : List Byte).map (fun b => decode3 0b11001011 b 0x12) = [
      .set0B, .set0C, .set0D, .set0E, .set0H, .set0L, .set0MemHl, .set0A, .set1B, .set1C, .set1D, .set1E, .set1H, .set1L,
      .set1MemHl, .set1A] := by decide

theorem test_decode_cb_Dx : ([
      0b11010000, 0b11010001, 0b11010010, 0b11010011, 0b11010100, 0b11010101, 0b11010110, 0b11010111, 0b11011000,
      0b11011001, 0b11011010, 0b11011011, 0b11011100, 0b11011101, 0b11011110, 0b11011111] : List Byte).map (fun b => decode3 0b11001011 b 0x12) = [
      .set2B, .set2C, .set2D, .set2E, .set2H, .set2L, .set2MemHl, .set2A, .set3B, .set3C, .set3D, .set3E, .set3H, .set3L,
      .set3MemHl, .set3A] := by decide

theorem test_decode_cb_Ex : ([
      0b11100000, 0b11100001, 0b11100010, 0b11100011, 0b11100100, 0b11100101, 0b11100110, 0b11100111, 0b11101000,
      0b11101001, 0b11101010, 0b11101011, 0b11101100, 0b11101101, 0b11101110, 0b11101111] : List Byte).map (fun b => decode3 0b11001011 b 0x12) = [
      .set4B, .set4C, .set4D, .set4E, .set4H, .set4L, .set4MemHl, .set4A, .set5B, .set5C, .set5D, .set5E, .set5H, .set5L,
      .set5MemHl, .set5A] := by decide

theorem test_decode_cb_Fx : ([
      0b11110000, 0b11110001, 0b11110010, 0b11110011, 0b11110100, 0b11110101, 0b11110110, 0b11110111, 0b11111000,
      0b11111001, 0b11111010, 0b11111011, 0b11111100, 0b11111101, 0b11111110, 0b11111111] : List Byte).map (fun b => decode3 0b11001011 b 0x12) = [
      .set6B, .set6C, .set6D, .set6E, .set6H, .set6L, .set6MemHl, .set6A, .set7B, .set7C, .set7D, .set7E, .set7H, .set7L,
      .set7MemHl, .set7A] := by decide

/-- The rows' words are read through the host's numbering too: a base row, a CB row, an immediate. -/
theorem test_decodeTableWord : decodeTableWord 8 0x41 = some .ldBC ∧ decodeTableWord 16 0x7CCB = some .bit7H ∧
    decodeTableWord 24 0x1234CD = some (.callNn 0x1234) ∧ decodeTableWord 8 0x3E = some (.ldAN 0) := by decide

/-- A list that ends too early, and an empty one. -/
theorem test_decode_rejects : decode [0x21, 0x00] = .error (.truncated 0x21 3) ∧ decode [0xCB] = .error (.truncated 0xCB 2) ∧
    decode [] = .error .noOpcode := by decide

/-! ## One step of each rule: vectors of 95_test_vectors.md -/

/-- The start state of the vectors, with the bytes of an instruction at `PC` and cells elsewhere. -/
def start : State := { State.reset with sp := 0xD000, pc := 0x0100 }

/-- Cells placed in memory. -/
def poke (s : State) (cells : List (Nat × Byte)) : State :=
  { s with mem := cells.foldl (fun m p => memWrite m p.1 p.2) s.mem }

/-- What is seen of the state after one step. -/
def seen {α : Type} (s : State) (view : State → α) : Option α :=
  match step s with
  | .next t => some (view t)
  | .fault _ => none
  | .refused _ => none

theorem test_LD_B_C_V1 : seen (poke { start with b := 0x12, c := 0x34 } [(0x0100, 0x41)])
    (fun t => (t.f, t.b, t.pc)) = some (0x00, 0x34, 0x0101) := by decide
theorem test_LD_A_0x2A_V3 : seen (poke start [(0x0100, 0x3E), (0x0101, 0x2A)])
    (fun t => (t.a, t.f, t.pc)) = some (0x2A, 0x00, 0x0102) := by decide
theorem test_LD_B_HL_V4 : seen (poke { start with h := 0xC0, l := 0x00 } [(0xC000, 0x77), (0x0100, 0x46)])
    (fun t => (t.f, t.b, t.pc)) = some (0x00, 0x77, 0x0101) := by decide
theorem test_LD_HL_A_V6 : seen (poke { start with h := 0xC0, l := 0x00, a := 0x5A } [(0x0100, 0x77)])
    (fun t => (t.f, t.pc, t.read 0xC000)) = some (0x00, 0x0101, 0x5A) := by decide
theorem test_LD_HL_0x99_V8 : seen (poke { start with h := 0xC1, l := 0x23 } [(0x0100, 0x36), (0x0101, 0x99)])
    (fun t => (t.f, t.pc, t.read 0xC123)) = some (0x00, 0x0102, 0x99) := by decide
theorem test_LD_A_BC_V9 : seen (poke { start with b := 0xC0, c := 0x10 } [(0xC010, 0x99), (0x0100, 0x0A)])
    (fun t => (t.a, t.f, t.pc)) = some (0x99, 0x00, 0x0101) := by decide
theorem test_LD_A_DE_V10 : seen (poke { start with d := 0xC0, e := 0x11 } [(0xC011, 0x98), (0x0100, 0x1A)])
    (fun t => (t.a, t.f, t.pc)) = some (0x98, 0x00, 0x0101) := by decide
theorem test_LD_BC_A_V11 : seen (poke { start with b := 0xC0, c := 0x10, a := 0x77 } [(0x0100, 0x02)])
    (fun t => (t.f, t.pc, t.read 0xC010)) = some (0x00, 0x0101, 0x77) := by decide
theorem test_LD_DE_A_V12 : seen (poke { start with d := 0xC0, e := 0x11, a := 0x76 } [(0x0100, 0x12)])
    (fun t => (t.f, t.pc, t.read 0xC011)) = some (0x00, 0x0101, 0x76) := by decide
theorem test_LD_A_0x1234_V13 : seen (poke start [(0x1234, 0xAB), (0x0100, 0xFA), (0x0101, 0x34), (0x0102, 0x12)])
    (fun t => (t.a, t.f, t.pc)) = some (0xAB, 0x00, 0x0103) := by decide
theorem test_LD_0xC234_A_V14 : seen (poke { start with a := 0xCD } [(0x0100, 0xEA), (0x0101, 0x34), (0x0102, 0xC2)])
    (fun t => (t.f, t.pc, t.read 0xC234)) = some (0x00, 0x0103, 0xCD) := by decide
theorem test_LDH_A_C_V15 : seen (poke { start with c := 0xFF } [(0xFFFF, 0x15), (0x0100, 0xF2)])
    (fun t => (t.a, t.f, t.pc)) = some (0x15, 0x00, 0x0101) := by decide
theorem test_LDH_C_A_V16 : seen (poke { start with c := 0x0F, a := 0x1F } [(0x0100, 0xE2)])
    (fun t => (t.f, t.pc, t.read 0xFF0F)) = some (0x00, 0x0101, 0x1F) := by decide
theorem test_LDH_A_0x0F_V17 : seen (poke start [(0xFF0F, 0x04), (0x0100, 0xF0), (0x0101, 0x0F)])
    (fun t => (t.a, t.f, t.pc)) = some (0x04, 0x00, 0x0102) := by decide
theorem test_LDH_0xFF_A_V18 : seen (poke { start with a := 0x1F } [(0x0100, 0xE0), (0x0101, 0xFF)])
    (fun t => (t.f, t.pc, t.read 0xFFFF)) = some (0x00, 0x0102, 0x1F) := by decide
theorem test_LD_A_HLdec_V19 : seen (poke { start with h := 0x00, l := 0x00 } [(0x0000, 0x42), (0x0100, 0x3A)])
    (fun t => (t.a, t.f, t.h, t.l, t.pc)) = some (0x42, 0x00, 0xFF, 0xFF, 0x0101) := by decide
theorem test_LD_HLdec_A_V20 : seen (poke { start with h := 0xC0, l := 0x00, a := 0x01 } [(0x0100, 0x32)])
    (fun t => (t.f, t.h, t.l, t.pc, t.read 0xC000)) = some (0x00, 0xBF, 0xFF, 0x0101, 0x01) := by decide
theorem test_LD_A_HLinc_V21 : seen (poke { start with h := 0xFF, l := 0xFF } [(0xFFFF, 0x1B), (0x0100, 0x2A)])
    (fun t => (t.a, t.f, t.h, t.l, t.pc)) = some (0x1B, 0x00, 0x00, 0x00, 0x0101) := by decide
theorem test_LD_HLinc_A_V22 : seen (poke { start with h := 0xC0, l := 0x00, a := 0x01 } [(0x0100, 0x22)])
    (fun t => (t.f, t.l, t.pc, t.read 0xC000)) = some (0x00, 0x01, 0x0101, 0x01) := by decide
theorem test_LD_HL_0xC000_V30 : seen (poke start [(0x0100, 0x21), (0x0101, 0x00), (0x0102, 0xC0)])
    (fun t => (t.f, t.h, t.pc)) = some (0x00, 0xC0, 0x0103) := by decide
theorem test_LD_0xC000_SP_V32 : seen (poke { start with sp := 0xD123 } [(0x0100, 0x08), (0x0101, 0x00), (0x0102, 0xC0)])
    (fun t => (t.f, t.pc, t.read 0xC000, t.read 0xC001)) = some (0x00, 0x0103, 0x23, 0xD1) := by decide
theorem test_LD_SP_HL_V34 : seen (poke { start with h := 0xC1, l := 0x00 } [(0x0100, 0xF9)])
    (fun t => (t.f, t.sp, t.pc)) = some (0x00, 0xC100, 0x0101) := by decide
theorem test_PUSH_BC_V35 : seen (poke { start with b := 0x12, c := 0x34 } [(0x0100, 0xC5)])
    (fun t => (t.f, t.sp, t.pc, t.read 0xCFFE, t.read 0xCFFF)) = some (0x00, 0xCFFE, 0x0101, 0x34, 0x12) := by decide
theorem test_PUSH_AF_V36 : seen (poke { start with a := 0x12, f := 0xB0 } [(0x0100, 0xF5)])
    (fun t => (t.f, t.sp, t.pc, t.read 0xCFFE, t.read 0xCFFF)) = some (0xB0, 0xCFFE, 0x0101, 0xB0, 0x12) := by decide
theorem test_POP_DE_V38 : seen (poke { start with sp := 0xCFFE } [(0xCFFE, 0x34), (0xCFFF, 0x12), (0x0100, 0xD1)])
    (fun t => (t.f, t.d, t.e, t.sp, t.pc)) = some (0x00, 0x12, 0x34, 0xD000, 0x0101) := by decide
theorem test_POP_AF_V39 : seen (poke { start with sp := 0xCFFE } [(0xCFFE, 0xFF), (0xCFFF, 0x12), (0x0100, 0xF1)])
    (fun t => (t.a, t.f, t.sp, t.pc)) = some (0x12, 0xF0, 0xD000, 0x0101) := by decide
theorem test_LD_HL_SPinc0xFE_V40 : seen (poke { start with sp := 0xD000, f := 0xF0 } [(0x0100, 0xF8), (0x0101, 0xFE)])
    (fun t => (t.f, t.h, t.l, t.pc)) = some (0x00, 0xCF, 0xFE, 0x0102) := by decide
theorem test_LD_HL_SPinc0x01_V41 : seen (poke { start with sp := 0xFFFF } [(0x0100, 0xF8), (0x0101, 0x01)])
    (fun t => (t.f, t.pc)) = some (0x30, 0x0102) := by decide
theorem test_ADD_A_B_V50 : seen (poke { start with a := 0x3A, b := 0xC6 } [(0x0100, 0x80)])
    (fun t => (t.a, t.f, t.pc)) = some (0x00, 0xB0, 0x0101) := by decide
theorem test_ADD_A_HL_V52 : seen (poke { start with a := 0x15, h := 0xC0, l := 0x00 } [(0xC000, 0x27), (0x0100, 0x86)])
    (fun t => (t.a, t.f, t.pc)) = some (0x3C, 0x00, 0x0101) := by decide
theorem test_ADD_A_0x01_V53 : seen (poke { start with a := 0x0F } [(0x0100, 0xC6), (0x0101, 0x01)])
    (fun t => (t.a, t.f, t.pc)) = some (0x10, 0x20, 0x0102) := by decide
theorem test_ADC_A_E_V54 : seen (poke { start with a := 0xE1, e := 0x0F, f := 0x10 } [(0x0100, 0x8B)])
    (fun t => (t.a, t.f, t.pc)) = some (0xF1, 0x20, 0x0101) := by decide
theorem test_ADC_A_HL_V55 : seen (poke { start with a := 0xE1, f := 0x10, h := 0xC0, l := 0x00 } [(0xC000, 0x1E), (0x0100, 0x8E)])
    (fun t => (t.a, t.f, t.pc)) = some (0x00, 0xB0, 0x0101) := by decide
theorem test_ADC_A_0xFF_V56 : seen (poke { start with a := 0xFF, f := 0x10 } [(0x0100, 0xCE), (0x0101, 0xFF)])
    (fun t => (t.f, t.pc)) = some (0x30, 0x0102) := by decide
theorem test_SUB_A_E_V57 : seen (poke { start with a := 0x3E, e := 0x3E } [(0x0100, 0x93)])
    (fun t => (t.a, t.f, t.pc)) = some (0x00, 0xC0, 0x0101) := by decide
theorem test_SUB_A_HL_V58 : seen (poke { start with a := 0x3E, h := 0xC0, l := 0x00 } [(0xC000, 0x40), (0x0100, 0x96)])
    (fun t => (t.a, t.f, t.pc)) = some (0xFE, 0x50, 0x0101) := by decide
theorem test_SUB_A_0x0F_V59 : seen (poke { start with a := 0x3E } [(0x0100, 0xD6), (0x0101, 0x0F)])
    (fun t => (t.a, t.f, t.pc)) = some (0x2F, 0x60, 0x0102) := by decide
theorem test_SBC_A_H_V60 : seen (poke { start with a := 0x3B, h := 0x2A, f := 0x10 } [(0x0100, 0x9C)])
    (fun t => (t.a, t.f, t.pc)) = some (0x10, 0x40, 0x0101) := by decide
theorem test_SBC_A_A_V61 : seen (poke { start with a := 0x77, f := 0x10 } [(0x0100, 0x9F)])
    (fun t => (t.a, t.f, t.pc)) = some (0xFF, 0x70, 0x0101) := by decide
theorem test_SBC_A_HL_V62 : seen (poke { start with a := 0x3B, f := 0x10, h := 0xC0, l := 0x00 } [(0xC000, 0x4F), (0x0100, 0x9E)])
    (fun t => (t.a, t.f, t.pc)) = some (0xEB, 0x70, 0x0101) := by decide
theorem test_SBC_A_0xFF_V63 : seen (poke { start with a := 0x00, f := 0x10 } [(0x0100, 0xDE), (0x0101, 0xFF)])
    (fun t => (t.f, t.pc)) = some (0xF0, 0x0102) := by decide
theorem test_AND_A_L_V64 : seen (poke { start with a := 0x5A, l := 0x3F } [(0x0100, 0xA5)])
    (fun t => (t.a, t.f, t.pc)) = some (0x1A, 0x20, 0x0101) := by decide
theorem test_AND_A_HL_V65 : seen (poke { start with a := 0x5A, h := 0xC0, l := 0x00 } [(0xC000, 0x00), (0x0100, 0xA6)])
    (fun t => (t.a, t.f, t.pc)) = some (0x00, 0xA0, 0x0101) := by decide
theorem test_AND_A_0x38_V66 : seen (poke { start with a := 0x5A, f := 0x50 } [(0x0100, 0xE6), (0x0101, 0x38)])
    (fun t => (t.a, t.f, t.pc)) = some (0x18, 0x20, 0x0102) := by decide
theorem test_XOR_A_A_V67 : seen (poke { start with a := 0x5A, f := 0x70 } [(0x0100, 0xAF)])
    (fun t => (t.a, t.f, t.pc)) = some (0x00, 0x80, 0x0101) := by decide
theorem test_XOR_A_HL_V68 : seen (poke { start with a := 0xFF, h := 0xC0, l := 0x00 } [(0xC000, 0x8A), (0x0100, 0xAE)])
    (fun t => (t.a, t.f, t.pc)) = some (0x75, 0x00, 0x0101) := by decide
theorem test_XOR_A_0xFF_V69 : seen (poke { start with a := 0xFF } [(0x0100, 0xEE), (0x0101, 0xFF)])
    (fun t => (t.a, t.f, t.pc)) = some (0x00, 0x80, 0x0102) := by decide
theorem test_OR_A_A_V70 : seen (poke { start with a := 0x5A, f := 0xF0 } [(0x0100, 0xB7)])
    (fun t => (t.f, t.pc)) = some (0x00, 0x0101) := by decide
theorem test_OR_A_HL_V71 : seen (poke { start with a := 0x5A, h := 0xC0, l := 0x00 } [(0xC000, 0x0F), (0x0100, 0xB6)])
    (fun t => (t.a, t.f, t.pc)) = some (0x5F, 0x00, 0x0101) := by decide
theorem test_OR_A_0x00_V72 : seen (poke { start with a := 0x00 } [(0x0100, 0xF6), (0x0101, 0x00)])
    (fun t => (t.f, t.pc)) = some (0x80, 0x0102) := by decide
theorem test_CP_A_B_V73 : seen (poke { start with a := 0x3C, b := 0x2F } [(0x0100, 0xB8)])
    (fun t => (t.f, t.pc)) = some (0x60, 0x0101) := by decide
theorem test_CP_A_HL_V74 : seen (poke { start with a := 0x3C, h := 0xC0, l := 0x00 } [(0xC000, 0x40), (0x0100, 0xBE)])
    (fun t => (t.f, t.pc)) = some (0x50, 0x0101) := by decide
theorem test_CP_A_0x3C_V75 : seen (poke { start with a := 0x3C } [(0x0100, 0xFE), (0x0101, 0x3C)])
    (fun t => (t.f, t.pc)) = some (0xC0, 0x0102) := by decide
theorem test_INC_B_V76 : seen (poke { start with b := 0xFF, f := 0x10 } [(0x0100, 0x04)])
    (fun t => (t.f, t.b, t.pc)) = some (0xB0, 0x00, 0x0101) := by decide
theorem test_INC_HL_V78 : seen (poke { start with h := 0xC0, l := 0x00 } [(0xC000, 0xFF), (0x0100, 0x34)])
    (fun t => (t.f, t.pc, t.read 0xC000)) = some (0xA0, 0x0101, 0x00) := by decide
theorem test_DEC_B_V79 : seen (poke { start with b := 0x01 } [(0x0100, 0x05)])
    (fun t => (t.f, t.b, t.pc)) = some (0xC0, 0x00, 0x0101) := by decide
theorem test_DEC_HL_V81 : seen (poke { start with h := 0xC0, l := 0x00 } [(0xC000, 0x10), (0x0100, 0x35)])
    (fun t => (t.f, t.pc, t.read 0xC000)) = some (0x60, 0x0101, 0x0F) := by decide
theorem test_DAA_V82 : seen (poke { start with a := 0x3C, f := 0x00 } [(0x0100, 0x27)])
    (fun t => (t.a, t.f, t.pc)) = some (0x42, 0x00, 0x0101) := by decide
theorem test_DAA_V83 : seen (poke { start with a := 0x9A, f := 0x00 } [(0x0100, 0x27)])
    (fun t => (t.a, t.f, t.pc)) = some (0x00, 0x90, 0x0101) := by decide
theorem test_CPL_V87 : seen (poke { start with a := 0x35, f := 0x90 } [(0x0100, 0x2F)])
    (fun t => (t.a, t.f, t.pc)) = some (0xCA, 0xF0, 0x0101) := by decide
theorem test_SCF_V88 : seen (poke { start with a := 0x35, f := 0xE0 } [(0x0100, 0x37)])
    (fun t => (t.f, t.pc)) = some (0x90, 0x0101) := by decide
theorem test_CCF_V89 : seen (poke { start with f := 0xF0 } [(0x0100, 0x3F)])
    (fun t => (t.f, t.pc)) = some (0x80, 0x0101) := by decide
theorem test_ADD_HL_BC_V100 : seen (poke { start with h := 0x8A, l := 0x23, b := 0x06, c := 0x05, f := 0x80 } [(0x0100, 0x09)])
    (fun t => (t.f, t.h, t.l, t.pc)) = some (0xA0, 0x90, 0x28, 0x0101) := by decide
theorem test_ADD_HL_HL_V101 : seen (poke { start with h := 0x80, l := 0x00, f := 0x80 } [(0x0100, 0x29)])
    (fun t => (t.f, t.h, t.pc)) = some (0x90, 0x00, 0x0101) := by decide
theorem test_INC_DE_V103 : seen (poke { start with d := 0xFF, e := 0xFF, f := 0x00 } [(0x0100, 0x13)])
    (fun t => (t.f, t.d, t.e, t.pc)) = some (0x00, 0x00, 0x00, 0x0101) := by decide
theorem test_DEC_BC_V105 : seen (poke { start with b := 0x00, c := 0x00, f := 0x00 } [(0x0100, 0x0B)])
    (fun t => (t.f, t.b, t.c, t.pc)) = some (0x00, 0xFF, 0xFF, 0x0101) := by decide
theorem test_ADD_SP_0x02_V107 : seen (poke { start with sp := 0xFFF8, f := 0xF0 } [(0x0100, 0xE8), (0x0101, 0x02)])
    (fun t => (t.f, t.sp, t.pc)) = some (0x00, 0xFFFA, 0x0102) := by decide
theorem test_ADD_SP_0xFF_V108 : seen (poke { start with sp := 0x0000 } [(0x0100, 0xE8), (0x0101, 0xFF)])
    (fun t => (t.f, t.sp, t.pc)) = some (0x00, 0xFFFF, 0x0102) := by decide
theorem test_RLCA_V120 : seen (poke { start with a := 0x85 } [(0x0100, 0x07)])
    (fun t => (t.a, t.f, t.pc)) = some (0x0B, 0x10, 0x0101) := by decide
theorem test_RRCA_V122 : seen (poke { start with a := 0x3B } [(0x0100, 0x0F)])
    (fun t => (t.a, t.f, t.pc)) = some (0x9D, 0x10, 0x0101) := by decide
theorem test_RLA_V123 : seen (poke { start with a := 0x95, f := 0x10 } [(0x0100, 0x17)])
    (fun t => (t.a, t.f, t.pc)) = some (0x2B, 0x10, 0x0101) := by decide
theorem test_RRA_V125 : seen (poke { start with a := 0x81, f := 0x00 } [(0x0100, 0x1F)])
    (fun t => (t.a, t.f, t.pc)) = some (0x40, 0x10, 0x0101) := by decide
theorem test_RLC_B_V126 : seen (poke { start with b := 0x85 } [(0x0100, 0xCB), (0x0101, 0x00)])
    (fun t => (t.f, t.b, t.pc)) = some (0x10, 0x0B, 0x0102) := by decide
theorem test_RLC_HL_V127 : seen (poke { start with h := 0xC0, l := 0x00 } [(0xC000, 0x80), (0x0100, 0xCB), (0x0101, 0x06)])
    (fun t => (t.f, t.pc, t.read 0xC000)) = some (0x10, 0x0102, 0x01) := by decide
theorem test_RRC_C_V128 : seen (poke { start with c := 0x01 } [(0x0100, 0xCB), (0x0101, 0x09)])
    (fun t => (t.f, t.c, t.pc)) = some (0x10, 0x80, 0x0102) := by decide
theorem test_RRC_HL_V129 : seen (poke { start with h := 0xC0, l := 0x00 } [(0xC000, 0x02), (0x0100, 0xCB), (0x0101, 0x0E)])
    (fun t => (t.f, t.pc, t.read 0xC000)) = some (0x00, 0x0102, 0x01) := by decide
theorem test_RL_L_V130 : seen (poke { start with l := 0x80, f := 0x00 } [(0x0100, 0xCB), (0x0101, 0x15)])
    (fun t => (t.f, t.l, t.pc)) = some (0x90, 0x00, 0x0102) := by decide
theorem test_RL_HL_V131 : seen (poke { start with h := 0xC0, l := 0x00, f := 0x10 } [(0xC000, 0x11), (0x0100, 0xCB), (0x0101, 0x16)])
    (fun t => (t.f, t.pc, t.read 0xC000)) = some (0x00, 0x0102, 0x23) := by decide
theorem test_RR_A_V132 : seen (poke { start with a := 0x01, f := 0x00 } [(0x0100, 0xCB), (0x0101, 0x1F)])
    (fun t => (t.a, t.f, t.pc)) = some (0x00, 0x90, 0x0102) := by decide
theorem test_RR_HL_V133 : seen (poke { start with h := 0xC0, l := 0x00, f := 0x10 } [(0xC000, 0x8A), (0x0100, 0xCB), (0x0101, 0x1E)])
    (fun t => (t.f, t.pc, t.read 0xC000)) = some (0x00, 0x0102, 0xC5) := by decide
theorem test_SLA_D_V134 : seen (poke { start with d := 0x80 } [(0x0100, 0xCB), (0x0101, 0x22)])
    (fun t => (t.f, t.d, t.pc)) = some (0x90, 0x00, 0x0102) := by decide
theorem test_SLA_HL_V135 : seen (poke { start with h := 0xC0, l := 0x00 } [(0xC000, 0xFF), (0x0100, 0xCB), (0x0101, 0x26)])
    (fun t => (t.f, t.pc, t.read 0xC000)) = some (0x10, 0x0102, 0xFE) := by decide
theorem test_SRA_A_V136 : seen (poke { start with a := 0x8A } [(0x0100, 0xCB), (0x0101, 0x2F)])
    (fun t => (t.a, t.f, t.pc)) = some (0xC5, 0x00, 0x0102) := by decide
theorem test_SRA_HL_V137 : seen (poke { start with h := 0xC0, l := 0x00 } [(0xC000, 0x01), (0x0100, 0xCB), (0x0101, 0x2E)])
    (fun t => (t.f, t.pc, t.read 0xC000)) = some (0x90, 0x0102, 0x00) := by decide
theorem test_SWAP_A_V138 : seen (poke { start with a := 0xF1, f := 0x10 } [(0x0100, 0xCB), (0x0101, 0x37)])
    (fun t => (t.a, t.f, t.pc)) = some (0x1F, 0x00, 0x0102) := by decide
theorem test_SWAP_HL_V139 : seen (poke { start with h := 0xC0, l := 0x00 } [(0xC000, 0x00), (0x0100, 0xCB), (0x0101, 0x36)])
    (fun t => (t.f, t.pc)) = some (0x80, 0x0102) := by decide
theorem test_SRL_A_V140 : seen (poke { start with a := 0x01 } [(0x0100, 0xCB), (0x0101, 0x3F)])
    (fun t => (t.a, t.f, t.pc)) = some (0x00, 0x90, 0x0102) := by decide
theorem test_SRL_HL_V141 : seen (poke { start with h := 0xC0, l := 0x00 } [(0xC000, 0xFF), (0x0100, 0xCB), (0x0101, 0x3E)])
    (fun t => (t.f, t.pc, t.read 0xC000)) = some (0x10, 0x0102, 0x7F) := by decide
theorem test_BIT_7_A_V142 : seen (poke { start with a := 0x80, f := 0x10 } [(0x0100, 0xCB), (0x0101, 0x7F)])
    (fun t => (t.f, t.pc)) = some (0x30, 0x0102) := by decide
theorem test_BIT_0_HL_V144 : seen (poke { start with h := 0xC0, l := 0x00 } [(0xC000, 0xFE), (0x0100, 0xCB), (0x0101, 0x46)])
    (fun t => (t.f, t.pc)) = some (0xA0, 0x0102) := by decide
theorem test_RES_7_A_V145 : seen (poke { start with a := 0x80, f := 0x00 } [(0x0100, 0xCB), (0x0101, 0xBF)])
    (fun t => (t.a, t.f, t.pc)) = some (0x00, 0x00, 0x0102) := by decide
theorem test_RES_3_HL_V146 : seen (poke { start with h := 0xC0, l := 0x00, f := 0xF0 } [(0xC000, 0xFF), (0x0100, 0xCB), (0x0101, 0x9E)])
    (fun t => (t.f, t.pc, t.read 0xC000)) = some (0xF0, 0x0102, 0xF7) := by decide
theorem test_SET_3_A_V147 : seen (poke { start with a := 0x80 } [(0x0100, 0xCB), (0x0101, 0xDF)])
    (fun t => (t.a, t.f, t.pc)) = some (0x88, 0x00, 0x0102) := by decide
theorem test_SET_3_HL_V148 : seen (poke { start with h := 0xC0, l := 0x00 } [(0xC000, 0x00), (0x0100, 0xCB), (0x0101, 0xDE)])
    (fun t => (t.f, t.pc, t.read 0xC000)) = some (0x00, 0x0102, 0x08) := by decide
theorem test_JP_0x0150_V160 : seen (poke start [(0x0100, 0xC3), (0x0101, 0x50), (0x0102, 0x01)])
    (fun t => (t.f, t.pc)) = some (0x00, 0x0150) := by decide
theorem test_JP_NZ_0x0200_V161 : seen (poke { start with f := 0x80 } [(0x0100, 0xC2), (0x0101, 0x00), (0x0102, 0x02)])
    (fun t => (t.f, t.pc)) = some (0x80, 0x0103) := by decide
theorem test_JP_NZ_0x0200_V162 : seen (poke { start with f := 0x00 } [(0x0100, 0xC2), (0x0101, 0x00), (0x0102, 0x02)])
    (fun t => (t.f, t.pc)) = some (0x00, 0x0200) := by decide
theorem test_JP_HL_V164 : seen (poke { start with h := 0xC0, l := 0x00 } [(0x0100, 0xE9)])
    (fun t => (t.f, t.pc)) = some (0x00, 0xC000) := by decide
theorem test_JR_0x05_V165 : seen (poke start [(0x0100, 0x18), (0x0101, 0x05)])
    (fun t => (t.f, t.pc)) = some (0x00, 0x0107) := by decide
theorem test_JR_NZ_0xFC_V169 : seen (poke { start with f := 0x00, pc := 0x0104 } [(0x0104, 0x20), (0x0105, 0xFC)])
    (fun t => (t.f, t.pc)) = some (0x00, 0x0102) := by decide
theorem test_JR_NZ_0xFC_V170 : seen (poke { start with f := 0x80, pc := 0x0104 } [(0x0104, 0x20), (0x0105, 0xFC)])
    (fun t => (t.f, t.pc)) = some (0x80, 0x0106) := by decide
theorem test_CALL_0x1234_V174 : seen (poke start [(0x0100, 0xCD), (0x0101, 0x34), (0x0102, 0x12)])
    (fun t => (t.f, t.sp, t.pc, t.read 0xCFFE, t.read 0xCFFF)) = some (0x00, 0xCFFE, 0x1234, 0x03, 0x01) := by decide
theorem test_CALL_C_0x2000_V175 : seen (poke { start with f := 0x10 } [(0x0100, 0xDC), (0x0101, 0x00), (0x0102, 0x20)])
    (fun t => (t.f, t.sp, t.pc, t.read 0xCFFE, t.read 0xCFFF)) = some (0x10, 0xCFFE, 0x2000, 0x03, 0x01) := by decide
theorem test_CALL_NC_0x2000_V176 : seen (poke { start with f := 0x10 } [(0x0100, 0xD4), (0x0101, 0x00), (0x0102, 0x20)])
    (fun t => (t.f, t.pc)) = some (0x10, 0x0103) := by decide
theorem test_RET_V177 : seen (poke { start with sp := 0xCFFE } [(0xCFFE, 0x03), (0xCFFF, 0x01), (0x0100, 0xC9)])
    (fun t => (t.f, t.sp, t.pc)) = some (0x00, 0xD000, 0x0103) := by decide
theorem test_RET_NZ_V178 : seen (poke { start with sp := 0xCFFE, f := 0x80 } [(0xCFFE, 0x03), (0xCFFF, 0x01), (0x0100, 0xC0)])
    (fun t => (t.f, t.pc)) = some (0x80, 0x0101) := by decide
theorem test_RET_NZ_V179 : seen (poke { start with sp := 0xCFFE, f := 0x00 } [(0xCFFE, 0x03), (0xCFFF, 0x01), (0x0100, 0xC0)])
    (fun t => (t.f, t.sp, t.pc)) = some (0x00, 0xD000, 0x0103) := by decide
theorem test_RETI_V180 : seen (poke { start with sp := 0xCFFE } [(0xCFFE, 0x03), (0xCFFF, 0x01), (0x0100, 0xD9)])
    (fun t => (t.f, t.sp, t.pc, t.ime)) = some (0x00, 0xD000, 0x0103, true) := by decide
theorem test_RST_0x28_V181 : seen (poke { start with pc := 0x0150 } [(0x0150, 0xEF)])
    (fun t => (t.f, t.sp, t.pc, t.read 0xCFFE, t.read 0xCFFF)) = some (0x00, 0xCFFE, 0x0028, 0x51, 0x01) := by decide
theorem test_RST_0x38_V182 : seen (poke { start with sp := 0x0002, pc := 0x0038 } [(0x0038, 0xFF)])
    (fun t => (t.f, t.sp, t.pc, t.read 0x0000)) = some (0x00, 0x0000, 0x0038, 0x39) := by decide
theorem test_NOP_V190 : seen (poke start [(0x0100, 0x00)])
    (fun t => (t.f, t.pc)) = some (0x00, 0x0101) := by decide
theorem test_HALT_V191 : seen (poke { start with ime := true } [(0x0100, 0x76)])
    (fun t => (t.f, t.pc, t.haltActive)) = some (0x00, 0x0101, true) := by decide
theorem test_HALT_V192 : seen (poke { start with ime := false } [(0x0100, 0x76)])
    (fun t => (t.f, t.pc, t.haltActive)) = some (0x00, 0x0101, true) := by decide
theorem test_STOP_V197 : seen (poke start [(0x0100, 0x10)])
    (fun t => (t.f, t.pc)) = some (0x00, 0x0101) := by decide
theorem test_STOP_V198 : seen (poke { start with key1 := some ⟨false, true⟩ } [(0x0100, 0x10)])
    (fun t => (t.f, t.pc, t.key1)) = some (0x00, 0x0101, some ⟨true, false⟩) := by decide
theorem test_DI_V201 : seen (poke { start with ime := true } [(0x0100, 0xF3)])
    (fun t => (t.f, t.pc, t.ime)) = some (0x00, 0x0101, false) := by decide
theorem test_EI_V203 : seen (poke { start with ime := false } [(0x0100, 0xFB)])
    (fun t => (t.f, t.pc, t.imeSched)) = some (0x00, 0x0101, true) := by decide
theorem test_EI_V204 : seen (poke { start with ime := false, imeSched := true } [(0x0100, 0xFB)])
    (fun t => (t.f, t.pc, t.ime)) = some (0x00, 0x0101, true) := by decide
theorem test_undefined_0xD3_V207 : seen (poke { start with a := 0x12, f := 0xF0 } [(0x0100, 0xD3)])
    (fun t => (t.f, t.pc)) = some (0xF0, 0x0101) := by decide
theorem test_CB_CB_SET_1_E_V209 : seen (poke { start with e := 0x00 } [(0x0100, 0xCB), (0x0101, 0xCB)])
    (fun t => (t.f, t.e, t.pc)) = some (0x00, 0x02, 0x0102) := by decide

/-! ## The controller, the halt bug, the prefix, the machine cycle -/

/-- V193: with `IME` and a pending VBlank the `HALT` at `PC` is not fetched; the dispatch pushes its address. -/
theorem test_dispatch_before_halt_V193 : seen (poke { start with ime := true } [(0xFF0F, 0x01), (0xFFFF, 0x01), (0x0100, 0x76)])
    (fun t => (t.pc, t.sp, t.read 0xCFFF, t.read 0xCFFE, t.ime)) = some (0x0040, 0xCFFE, 0x01, 0x00, false) := by decide
theorem test_dispatch_clears_the_flag_V193 :
    seen (poke { start with ime := true } [(0xFF0F, 0x01), (0xFFFF, 0x01), (0x0100, 0x76)]) (fun t => t.read 0xFF0F) =
      some 0x00 := by decide
/-- R407: Timer (bit 2) before Joypad (bit 4); the other flag stays. -/
theorem test_dispatch_priority : seen (poke { start with ime := true } [(0xFF0F, 0x14), (0xFFFF, 0x1F)])
    (fun t => (t.pc, t.read 0xFF0F)) = some (0x0050, 0x10) := by decide
/-- R415: with `IME` false a pending source wakes the CORE, which fetches. -/
theorem test_wake_without_ime :
    seen (poke { start with haltActive := true } [(0xFF0F, 0x01), (0xFFFF, 0x01), (0x0100, 0x3C)])
      (fun t => (t.haltActive, t.a, t.read 0xFF0F)) = some (false, 0x01, 0x01) := by decide
/-- R372's example, the step after the `HALT`: `3E 14` with the halt bug is `LD A,0x3E`. -/
theorem test_halt_bug_fetch : seen (poke { start with haltBug := true } [(0x0100, 0x3E), (0x0101, 0x14)])
    (fun t => (t.a, t.pc, t.haltBug)) = some (0x3E, 0x0101, false) := by decide
/-- R376: the prefix under the halt bug is `CB CB`, `SET 1,E`. -/
theorem test_halt_bug_prefix : seen (poke { start with haltBug := true } [(0x0100, 0xCB)]) (fun t => (t.e, t.pc)) =
    some (0x02, 0x0101) := by decide
/-- R410: the retire of the instruction after `EI` commits the enable; `DI` there leaves both false. -/
theorem test_enable_commits : seen (poke { start with imeSched := true } [(0x0100, 0x00)]) (fun t => (t.ime, t.imeSched)) =
    some (true, false) := by decide
theorem test_di_after_ei : seen (poke { start with imeSched := true } [(0x0100, 0xF3)]) (fun t => (t.ime, t.imeSched)) =
    some (false, false) := by decide
/-- R376: the row of the bare prefix, `CB 37` (`SWAP A`, R327). -/
theorem test_bare_prefix : (match exec .prefixCb (poke { start with a := 0xF1 } [(0x0100, 0xCB), (0x0101, 0x37)]) with
    | .next t => some (t.a, t.pc) | _ => none) = some (0x1F, 0x0102) := by decide
/-- R356: row 5 of `CALL` writes the high byte of the return address. -/
theorem test_call_row_five : (match cycleWithBus { start with pc := 0x0103, pipe := some ⟨.base 0xCD, 5⟩, scratch := [0x12, 0x34] } with
    | .next (op, t) => some (op, t.sp, t.pipe) | _ => none) =
      some (.write 0xCFFF 0x01, 0xCFFF, some ⟨.base 0xCD, 6⟩) := by decide
/-- R39, R461: a row that finds its scratch stack empty has no next state. -/
theorem test_scratch_underflow_fails_fast :
    (match cycle { start with pipe := some ⟨.base 0xCD, 6⟩, scratch := [] } with
      | .fault r => some r | _ => none) = some .scratchUnderflow := by decide
/-- The word placed by the host's function is the next instruction that runs, from reset too. -/
theorem test_withFetchWord : seen (State.reset.withFetchWord 16 0xDFCB) (fun t => (t.a, t.pc)) = some (0x08, 0x0002) := by
  decide

/-! ## Premises met: a state and operands for every obligation that has premises -/

/-- A boundary state with an interrupt enabled and pending. -/
def pendingState : State := poke start [(0xFF0F, 0x05), (0xFFFF, 0x04)]
/-- The second row of `CALL nn` is the next to run. -/
def midCall : State := { start with pc := 0x0101, pipe := some ⟨.base 0xCD, 2⟩ }

theorem witness_DecodeOfEncodeIsTheInstruction : WellFormed (.ldBcNn 0xFFFF) = true ∧ WellFormed .set7A = true := by decide
theorem witness_EncodeOfDecodeIsTheBytes : decode [0x01, 0xFF, 0x80, 0x00] = .ok (.ldBcNn 0x80FF, [0x00]) := by decide
theorem witness_EveryOpcodeByteDecodes : opcodeLength 0xCD ≤ [0x34#8, 0x12#8].length + 1 ∧
    [0x34#8].length + 1 < opcodeLength 0xCD ∧ opcodeLength 0xFF ≤ ([] : List Byte).length + 1 := by decide
theorem witness_StepRunsDecodedInstruction : let s := poke start [(0x0100, 0x41)]
    s.pipe = none ∧ (s.haltActive = true → s.pend ≠ 0#8) ∧ (s.ime = true → s.pend = 0#8) ∧
      decode [s.read s.pc, s.read (if s.haltBug then s.pc else s.pc + 1#16),
        s.read (if s.haltBug then s.pc + 1#16 else s.pc + 2#16)] = .ok (.ldBC, [0, 0]) := by decide
/-- The same with the halt bug, out of `Halted`, with an interrupt pending. -/
theorem witness_StepRunsDecodedInstruction_halted :
    let s := { poke pendingState [(0x0100, 0xCB)] with haltActive := true, haltBug := true }
    s.pipe = none ∧ (s.haltActive = true → s.pend ≠ 0#8) ∧ (s.ime = true → s.pend = 0#8) ∧
      decode [s.read s.pc, s.read (if s.haltBug then s.pc else s.pc + 1#16),
        s.read (if s.haltBug then s.pc + 1#16 else s.pc + 2#16)] = .ok (.set1E, [0]) := by decide
theorem witness_BoundaryDecisionTable :
    (let s := { start with haltActive := true }; s.pipe = none ∧ s.haltActive = true ∧ s.pend = 0#8) ∧
      (let s := { pendingState with ime := true }; s.pipe = none ∧ s.pend ≠ 0#8 ∧ s.ime = true) ∧
      (pendingState.pipe = none ∧ pendingState.pend ≠ 0#8 ∧ pendingState.ime = false) ∧
      (start.pipe = none ∧ start.pend = 0#8 ∧ start.haltActive = false) ∧ midCall.pipe = some ⟨.base 0xCD, 2⟩ := by decide
theorem witness_PendingSetAndItsPriority : highestPriority 0xF0 = some .joypad ∧ highestPriority 0xE0 = none := by decide
theorem witness_DispatchPushesPcAndEntersTheVector : let s := { pendingState with ime := true }
    s.pipe = none ∧ s.ime = true ∧ s.pend ≠ 0#8 ∧ highestPriority s.pend = some .timer ∧ Memory.wf s.mem = true ∧
      0xFF0F#16 ∉ [s.sp - 1#16, s.sp - 2#16] ∧ 0xC000#16 ∉ [0xFF0F#16, s.sp - 1#16, s.sp - 2#16] := by decide
theorem witness_RetiUndoesDispatch : Memory.wf start.mem = true ∧ start.isKey1 (start.sp - 1#16) = false ∧
    start.isKey1 (start.sp - 2#16) = false := by decide
theorem witness_HaltedCoreIdles_idle : let s := { start with haltActive := true }
    s.pipe = none ∧ s.haltActive = true ∧ s.pend = 0#8 := by decide
theorem witness_HaltedCoreIdles_halting :
    exec .halt start = .next { start with pc := 0x0101, haltActive := true } ∧ start.haltActive = false :=
  ⟨rfl, rfl⟩
theorem witness_EnableCommitsAfterTheNextInstruction : let s := { pendingState with imeSched := true }
    s.pipe = none ∧ s.haltActive = false ∧ s.ime = false ∧ s.imeSched = true := by decide
theorem witness_HaltBugUsesTheByteTwice : let s := { poke start [(0x0100, 0x3E)] with haltBug := true }
    s.pipe = none ∧ s.haltActive = false ∧ s.ime = false ∧ s.haltBug = true ∧ s.read s.pc = 0x3E#8 := by decide
theorem witness_CreationMeetsTheInvariant : let r := { ResetState.default with f := 0xF0, haltActive := true }
    r.wf = true ∧ (r.haltActive && r.haltBug) = false ∧ Memory.wf [(0, 1), (65535, 0xFF)] = true := by decide
theorem witness_StepKeepsTheInvariant : start.Inv = true ∧ midCall.Inv = true ∧ pendingState.Inv = true := by decide
theorem witness_CycleKeepsTheInvariant :
    (let s := { start with pc := 0x0103, pipe := some ⟨.base 0xCD, 6⟩, scratch := [0, 0x12, 0x34] }; s.Inv = false) ∧
      (let s := { start with pc := 0x0103, pipe := some ⟨.base 0xCD, 6⟩, scratch := [0x12, 0x34] }; s.Inv = true) := by decide
theorem witness_ReachableStatesAreGood : Reachable State.reset := .create true ResetState.default [] rfl rfl rfl
theorem witness_StepIsTheCyclesOfTheTimingTable : start.pipe = none ∧ (poke start [(0x0100, 0xCD)]).stepCycles = some 6 := by
  decide
theorem witness_PipelineEndsWithinFiveCycles : midCall.Inv = true ∧ midCall.pipe ≠ none := by decide
theorem witness_MidPipelineIgnoresIme : midCall.pipe = some ⟨.base 0xCD, 2⟩ ∧ 2 ≤ (⟨.base 0xCD, 2⟩ : Pipe).row ∧
    cycleWithBus midCall = .next (.read 0x0101, { midCall with pc := 0x0102, scratch := [0], pipe := some ⟨.base 0xCD, 3⟩ }) :=
  ⟨rfl, by decide, rfl⟩
theorem witness_OnlyFlagWritersChangeF :
    exec .scf start = .next { start with pc := 0x0101, f := 0x10 } ∧ (0x10#8 : Byte) ≠ start.f :=
  ⟨rfl, by decide⟩
theorem witness_ControlStateHasFewWriters : exec .nop start = .next { start with pc := 0x0101 } := rfl
theorem witness_StackPointerHasFewWriters :
    exec .incSp start = .next { start with pc := 0x0101, sp := 0xD001 } ∧ (0xD001#16 : Word) ≠ start.sp :=
  ⟨rfl, by decide⟩
theorem witness_MemoriesThatReadAlikeAreEqual : Memory.wf [(0xC000, 1)] = true := by decide
theorem witness_Key1PortReadsAndWrites : start.key1 = some ⟨false, false⟩ ∧ State.key1 { start with key1 := none } = none ∧
    Memory.wf start.mem = true := by decide
theorem witness_HostRegistersRoundTrip : start.pipe = none ∧ midCall.pipe ≠ none := by decide
theorem witness_EnvironmentMovesAndTraceLeaveTheCore : Memory.wf pendingState.mem = true ∧ 0xFF10#16 ≠ 0xFF0F#16 := by decide
/-- The premises of the trace clauses: a fetch with a flag pending and `IME` false, an idle cycle, a dispatch, a later row. -/
theorem witness_EnvironmentMovesAndTraceLeaveTheCore_cycles :
    let halted := { start with haltActive := true }
    let served := { pendingState with ime := true }
    (∃ t, cycle pendingState = .next t) ∧ pendingState.pipe = none ∧ pendingState.haltActive = false ∧
      pendingState.ime = false ∧ pendingState.pend ≠ 0#8 ∧
      (∃ t, cycle halted = .next t) ∧ halted.pend = 0#8 ∧ (∃ t, cycle served = .next t) ∧ served.pend ≠ 0#8 ∧
      (∃ t, cycle midCall = .next t) ∧ midCall.pipe ≠ none :=
  ⟨⟨_, rfl⟩, by decide, by decide, by decide, by decide, ⟨_, rfl⟩, by decide, ⟨_, rfl⟩, by decide, ⟨_, rfl⟩, by decide⟩
theorem test_trace_names_the_instruction_fetched : ∃ t, tracedCycle (poke start [(0x0100, 0x3E), (0x0101, 0x2A)]) []
    (some fun text log => text :: log) = .next (["LD A,n"], t) := ⟨_, rfl⟩
theorem witness_AluAlgebra : (0xFF#8 : Byte) ≠ 0#8 := by decide
theorem witness_DaaCorrectsBcdSumsAndDifferences : let s := { start with a := 0x99, b := 0x01 }
    s.a = bcd (99 : Fin 100) ∧ s.b = bcd (1 : Fin 100) := by decide
theorem witness_StoresThroughHlWriteTheByte : Memory.wf start.mem = true := by decide
theorem witness_AccumulatorLoadsReadTheirAddress :
    ((.ldhAMemC, 0xFF#8 ++ start.c, 1) : Instr × Word × Nat) ∈ [(.ldAMemBc, start.b ++ start.c, 1),
      (.ldAMemDe, start.d ++ start.e, 1), (.ldAMemNn 0xFFFF, 0xFFFF, 3), (.ldhAMemC, 0xFF#8 ++ start.c, 1),
      (.ldhAMemN 0xFF, 0xFF#8 ++ 0xFF#8, 2)] := by decide
theorem witness_AccumulatorStoresWriteTheirAddress : Memory.wf start.mem = true ∧
    ((.ldMemNnA 0xFFFF, 0xFFFF, 3) : Instr × Word × Nat) ∈ [(.ldMemBcA, start.b ++ start.c, 1),
      (.ldMemDeA, start.d ++ start.e, 1), (.ldMemNnA 0xFFFF, 0xFFFF, 3), (.ldhMemCA, 0xFF#8 ++ start.c, 1),
      (.ldhMemNA 0xFF, 0xFF#8 ++ 0xFF#8, 2)] := by decide
theorem witness_HlSteppingFormsMoveHlByOne : Memory.wf start.mem = true ∧
    (Instr.ldAMemHlDec, Instr.ldMemHlDecA, (-1#16 : Word)) ∈ [(Instr.ldAMemHlInc, Instr.ldMemHlIncA, 1#16),
      (.ldAMemHlDec, .ldMemHlDecA, -1#16)] := by decide
theorem witness_PairLoadsTakeTheWord : Pair16.bc ≠ .sp := by decide
theorem witness_StoreSpWritesLowByteFirst : Memory.wf start.mem = true := by decide
theorem witness_PushWritesThePairBelowSp : Memory.wf (State.mem { start with sp := 0x0001 }) = true := by decide
theorem witness_PopReadsThePairAtSp : StkPair.bc ≠ .af := by decide
theorem witness_PopAfterPushGivesThePair : let s := { start with sp := 0x0001 }
    Memory.wf s.mem = true ∧ s.isKey1 (s.sp - 1#16) = false ∧ s.isKey1 (s.sp - 2#16) = false := by decide
theorem witness_IncAndDecMemoryWriteBack : Memory.wf start.mem = true := by decide
theorem witness_PairArithmeticResultsAndFlags : Pair16.hl ≠ .sp := by decide
theorem witness_CbRotatesAndShiftsMoveEveryBit : Memory.wf start.mem = true := by decide
theorem witness_SetAndResAreBitMasks : Memory.wf start.mem = true := by decide
theorem witness_JumpsSetPc : ¬ CondHolds .z start ∧ CondHolds .nz start ∧ ¬ CondHolds .c start ∧ CondHolds .nc start := by
  simp only [CondHolds]; decide
theorem witness_CallsPushTheReturnAddress : Memory.wf start.mem = true ∧ CondHolds .nz start ∧ ¬ CondHolds .z start := by
  simp only [CondHolds]; decide
theorem witness_ReturnsPopPc : CondHolds .nc start ∧ ¬ CondHolds .c start := by
  simp only [CondHolds]; decide
theorem witness_ReturnAfterCallComesBack : Memory.wf start.mem = true ∧ start.isKey1 (start.sp - 1#16) = false ∧
    start.isKey1 (start.sp - 2#16) = false ∧ ((.rst 7, 1) : Instr × Nat) ∈ [(.callNn 0x1234, 3), (.rst 7, 1)] := by decide
theorem witness_NopAndUndefinedOpcodesOnlyAdvancePc : Instr.undefinedFD ∈ [Instr.nop, .undefinedD3, .undefinedDB, .undefinedDD,
    .undefinedE3, .undefinedE4, .undefinedEB, .undefinedEC, .undefinedED, .undefinedF4, .undefinedFC, .undefinedFD] := by
  decide
theorem witness_HaltChoosesHaltOrHaltBug :
    (start.ime = true ∨ start.pend = 0#8) ∧ (pendingState.ime = false ∧ pendingState.pend ≠ 0#8) := by decide
theorem witness_StopSwitchesSpeedWhenPrepared : State.key1 { start with key1 := some ⟨true, true⟩ } = some ⟨true, true⟩ ∧
    (start.key1 = none ∨ start.key1 = some ⟨false, false⟩) := by decide

end Sys2Proof.Tests
end

section
/-! SUPPORT. The inversion of `exec`: every instruction is of one of the families below, and its meaning is that family's update
of the state. -/

namespace Sys2Proof.Machine

open Sys2Proof

/-- What an instruction does, by family: the update it makes of `s`, its bytes read (R174, R175). -/
inductive Executes (s : State) : Instr → State → Prop where
  | ldRegReg (x y : Reg8) : Executes s (.ldRegReg x y) ((s.past 1).setReg x (s.reg y))
  | ldRegImm (x : Reg8) (n : Byte) : Executes s (.ldRegImm x n) ((s.past 2).setReg x n)
  | ldRegMem (x : Reg8) : Executes s (.ldRegMem x) ((s.past 1).setReg x (s.read s.hl))
  | ldMemReg (x : Reg8) : Executes s (.ldMemReg x) ((s.past 1).write s.hl (s.reg x))
  | ldMemHlN (n : Byte) : Executes s (.ldMemHlN n) ((s.past 2).write s.hl n)
  | ldAIndirect (m : Indirect) :
      Executes s (.ldAIndirect m) (((s.past 1).setReg .a (s.read (s.indirectAddr m))).indirectStep m)
  | ldIndirectA (m : Indirect) : Executes s (.ldIndirectA m) (((s.past 1).write (s.indirectAddr m) s.a).indirectStep m)
  | ldAMemNn (nn : Word) : Executes s (.ldAMemNn nn) ((s.past 3).setReg .a (s.read nn))
  | ldMemNnA (nn : Word) : Executes s (.ldMemNnA nn) ((s.past 3).write nn s.a)
  | ldhAMemC : Executes s .ldhAMemC ((s.past 1).setReg .a (s.read (highPage s.c)))
  | ldhMemCA : Executes s .ldhMemCA ((s.past 1).write (highPage s.c) s.a)
  | ldhAMemN (n : Byte) : Executes s (.ldhAMemN n) ((s.past 2).setReg .a (s.read (highPage n)))
  | ldhMemNA (n : Byte) : Executes s (.ldhMemNA n) ((s.past 2).write (highPage n) s.a)
  | ldPairImm (p : Pair16) (nn : Word) : Executes s (.ldPairImm p nn) ((s.past 3).setPair p nn)
  | ldMemNnSp (nn : Word) :
      Executes s (.ldMemNnSp nn) (((s.past 3).write nn (loByte s.sp)).write (nn + 1#16) (hiByte s.sp))
  | ldSpHl : Executes s .ldSpHl ((s.past 1).setPair .sp s.hl)
  | push (q : StkPair) : Executes s (.push q) ((s.past 1).pushWord (s.stk q))
  | pop (q : StkPair) : Executes s (.pop q) ((s.past 1).dropWord.setStk q s.topWord)
  | ldHlSpE (e : Byte) :
      Executes s (.ldHlSpE e) (((s.past 2).setFlags (addsp s.sp e).2).setPair .hl (addsp s.sp e).1)
  | aluReg (op : AluOp) (r : Reg8) : Executes s (.aluReg op r) ((s.past 1).alu op (s.reg r))
  | aluMem (op : AluOp) : Executes s (.aluMem op) ((s.past 1).alu op (s.read s.hl))
  | aluImm (op : AluOp) (n : Byte) : Executes s (.aluImm op n) ((s.past 2).alu op n)
  | incReg (r : Reg8) :
      Executes s (.incReg r) (((s.past 1).setFlags (inc8 (s.reg r)).2).setReg r (inc8 (s.reg r)).1)
  | decReg (r : Reg8) :
      Executes s (.decReg r) (((s.past 1).setFlags (dec8 (s.reg r)).2).setReg r (dec8 (s.reg r)).1)
  | incMemHl :
      Executes s .incMemHl (((s.past 1).setFlags (inc8 (s.read s.hl)).2).write s.hl (inc8 (s.read s.hl)).1)
  | decMemHl :
      Executes s .decMemHl (((s.past 1).setFlags (dec8 (s.read s.hl)).2).write s.hl (dec8 (s.read s.hl)).1)
  | daa : Executes s .daa
      (((s.past 1).setReg .a (daa8 s.a s.fN s.fH s.fC).1).setFlags (daa8 s.a s.fN s.fH s.fC).2)
  | cpl : Executes s .cpl (((s.past 1).setReg .a (cpl8 s.a).1).setFlags (cpl8 s.a).2)
  | scf : Executes s .scf ((s.past 1).setFlags scfFlags)
  | ccf : Executes s .ccf ((s.past 1).setFlags (ccfFlags s.fC))
  | addHlPair (p : Pair16) : Executes s (.addHlPair p)
      (((s.past 1).setFlags (add16 s.hl (s.pair p)).2).setPair .hl (add16 s.hl (s.pair p)).1)
  | incPair (p : Pair16) : Executes s (.incPair p) ((s.past 1).setPair p (inc16 (s.pair p)))
  | decPair (p : Pair16) : Executes s (.decPair p) ((s.past 1).setPair p (dec16 (s.pair p)))
  | addSpE (e : Byte) : Executes s (.addSpE e) (((s.past 2).setFlags (addsp s.sp e).2).setPair .sp (addsp s.sp e).1)
  | accRot (o : AccRot) : Executes s (.accRot o)
      (((s.past 1).setReg .a (accApply o s.a s.fC).1).setFlags (accApply o s.a s.fC).2)
  | rotLoc (o : RotOp) (x : Loc8) : Executes s (.rotLoc o x) ((s.past 2).rotate o x)
  | bitLoc (n : Fin 8) (x : Loc8) : Executes s (.bitLoc n x) ((s.past 2).testBit n x)
  | resLoc (n : Fin 8) (x : Loc8) : Executes s (.resLoc n x) ((s.past 2).clearBit n x)
  | setLoc (n : Fin 8) (x : Loc8) : Executes s (.setLoc n x) ((s.past 2).raiseBit n x)
  | jpNn (nn : Word) : Executes s (.jpNn nn) ((s.past 3).jump nn)
  | jpCond (k : Cond) (nn : Word) : Executes s (.jpCond k nn) ((s.past 3).branch (s.cond k) (·.jump nn))
  | jpHl : Executes s .jpHl ((s.past 1).jump s.hl)
  | jrE (e : Byte) : Executes s (.jrE e) ((s.past 2).jumpBy e)
  | jrCond (k : Cond) (e : Byte) : Executes s (.jrCond k e) ((s.past 2).branch (s.cond k) (·.jumpBy e))
  | callNn (nn : Word) : Executes s (.callNn nn) ((s.past 3).call nn)
  | callCond (k : Cond) (nn : Word) : Executes s (.callCond k nn) ((s.past 3).branch (s.cond k) (·.call nn))
  | ret : Executes s .ret ((s.past 1).returnTo false)
  | retCond (k : Cond) : Executes s (.retCond k) ((s.past 1).branch (s.cond k) (·.returnTo false))
  | reti : Executes s .reti ((s.past 1).returnTo true)
  | rst (y : Fin 8) : Executes s (.rst y) ((s.past 1).call (BitVec.ofNat 16 (8 * y.val)))
  | nop : Executes s .nop (s.past 1)
  | halt : Executes s .halt (s.past 1).halt
  | stop : Executes s .stop (s.past 1).stop
  | di : Executes s .di (s.past 1).di
  | ei : Executes s .ei (s.past 1).ei
  | prefixCb : Executes s .prefixCb ((s.past 2).cbWork (s.read (s.past 1).pc))
  | undefinedOpcode (i : Instr) (hi : i ∈ Instr.undefinedOpcodes) : Executes s i (s.past 1)

/-- The relation is `exec`: the update of an instruction's family is what `exec` answers. -/
theorem Executes.exec_eq {i : Instr} {s t : State} (h : Executes s i t) : exec i s = .next t := by
  cases h with
  | undefinedOpcode _ hi => exact exec_undefined s hi
  | _ =>
    simp only [exec_ldRegReg, exec_ldRegImm, exec_ldRegMem, exec_ldMemReg, exec_ldMemHlN, exec_ldAIndirect,
      exec_ldIndirectA, exec_ldAMemNn, exec_ldMemNnA, exec_ldhAMemC, exec_ldhMemCA, exec_ldhAMemN, exec_ldhMemNA,
      exec_ldPairImm, exec_ldMemNnSp, exec_ldSpHl, exec_push, exec_pop, exec_ldHlSpE, exec_aluReg, exec_aluMem,
      exec_aluImm, exec_incReg, exec_decReg, exec_incMemHl, exec_decMemHl, exec_daa, exec_cpl, exec_scf, exec_ccf,
      exec_addHlPair, exec_incPair, exec_decPair, exec_addSpE, exec_accRot, exec_rotLoc, exec_bitLoc, exec_resLoc,
      exec_setLoc, exec_jpNn, exec_jpCond, exec_jpHl, exec_jrE, exec_jrCond, exec_callNn, exec_callCond, exec_ret,
      exec_retCond, exec_reti, exec_rst, exec_nop, exec_halt, exec_stop, exec_di, exec_ei, exec_prefixCb]
    rfl

/-! ## Every instruction is of a family: through the decoder, which is written by families (R99 to R103) -/

/-- The decoder reads an instruction other than `prefixCb` from the first three bytes of its encoding and two zeros. -/
theorem decode3_encode (i : Instr) (hi : i ≠ .prefixCb) :
    ∃ op b1 b2 rest, encode i ++ [0, 0] = op :: b1 :: b2 :: rest ∧ decode3 op b1 b2 = i := by
  cases i with
  | prefixCb => contradiction
  | ldBcNn nn | ldDeNn nn | ldHlNn nn | ldSpNn nn | ldMemNnSp nn | jpNn nn | jpNzNn nn | jpZNn nn | jpNcNn nn
  | jpCNn nn | callNn nn | callNzNn nn | callZNn nn | callNcNn nn | callCNn nn | ldMemNnA nn | ldAMemNn nn =>
    exact ⟨_, _, _, _, rfl, congrArg _ (joinBytes_halves nn)⟩
  | _ => exact ⟨_, _, _, _, rfl, rfl⟩

section
variable (s : State)

theorem executes_ldLocLoc (x y : Loc8) : ∃ t, Executes s (.ldLocLoc x y) t := by
  cases x <;> cases y <;> exact ⟨_, by constructor⟩

theorem executes_ldLocImm (x : Loc8) (n : Byte) : ∃ t, Executes s (.ldLocImm x n) t := by
  cases x <;> exact ⟨_, by constructor⟩

theorem executes_incLoc (x : Loc8) : ∃ t, Executes s (.incLoc x) t := by
  cases x <;> exact ⟨_, by constructor⟩

theorem executes_decLoc (x : Loc8) : ∃ t, Executes s (.decLoc x) t := by
  cases x <;> exact ⟨_, by constructor⟩

theorem executes_aluLoc (op : AluOp) (x : Loc8) : ∃ t, Executes s (.aluLoc op x) t := by
  cases x <;> exact ⟨_, by constructor⟩

theorem executes_undefined {i : Instr} (hi : i ∈ Instr.undefinedOpcodes) : ∃ t, Executes s i t :=
  ⟨_, .undefinedOpcode i hi⟩

theorem executes_quadrant0 (y z : Nat) (n : Byte) (nn : Word) : ∃ t, Executes s (quadrant0 y z n nn) t := by
  unfold quadrant0
  split
  · split <;> exact ⟨_, by constructor⟩
  · split <;> exact ⟨_, by constructor⟩
  · split <;> exact ⟨_, by constructor⟩
  · split <;> exact ⟨_, by constructor⟩
  · exact executes_incLoc ..
  · exact executes_decLoc ..
  · exact executes_ldLocImm ..
  · split
    · exact ⟨_, .accRot .rlca⟩
    · exact ⟨_, .accRot .rrca⟩
    · exact ⟨_, .accRot .rla⟩
    · exact ⟨_, .accRot .rra⟩
    · exact ⟨_, .daa⟩
    · exact ⟨_, .cpl⟩
    · exact ⟨_, .scf⟩
    · exact ⟨_, .ccf⟩

theorem executes_quadrant3 (y z : Nat) (n : Byte) (nn : Word) : ∃ t, Executes s (quadrant3 y z n nn) t := by
  unfold quadrant3
  split
  · split <;> exact ⟨_, by constructor⟩
  · split
    · exact ⟨_, .pop _⟩
    · split <;> exact ⟨_, by constructor⟩
  · split <;> exact ⟨_, by constructor⟩
  · split
    · exact ⟨_, .jpNn nn⟩
    · exact ⟨_, .prefixCb⟩
    · exact executes_undefined s (by decide)
    · exact executes_undefined s (by decide)
    · exact executes_undefined s (by decide)
    · exact executes_undefined s (by decide)
    · exact ⟨_, .di⟩
    · exact ⟨_, .ei⟩
  · split
    · exact executes_undefined s (by decide)
    · exact executes_undefined s (by decide)
    · exact executes_undefined s (by decide)
    · exact executes_undefined s (by decide)
    · exact ⟨_, .callCond _ nn⟩
  · split
    · exact ⟨_, .push _⟩
    · split
      · exact ⟨_, .callNn nn⟩
      · exact executes_undefined s (by decide)
      · exact executes_undefined s (by decide)
      · exact executes_undefined s (by decide)
  · exact ⟨_, .aluImm _ n⟩
  · exact ⟨_, .rst _⟩

theorem executes_cbInstr (op2 : Byte) : ∃ t, Executes s (cbInstr op2) t := by
  unfold cbInstr
  split <;> exact ⟨_, by constructor⟩

theorem executes_decode3 (op b1 b2 : Byte) : ∃ t, Executes s (decode3 op b1 b2) t := by
  unfold decode3
  split
  · exact executes_cbInstr ..
  · unfold baseInstr
    split
    · exact executes_quadrant0 ..
    · exact executes_ldLocLoc ..
    · exact executes_aluLoc ..
    · exact executes_quadrant3 ..

end

/-- Inversion of `exec`: what it answers is the update of the instruction's family. -/
theorem Executes.of_exec {i : Instr} {s t : State} (h : exec i s = .next t) : Executes s i t := by
  obtain ⟨u, hu⟩ : ∃ u, Executes s i u := by
    by_cases hi : i = .prefixCb
    · exact hi ▸ ⟨_, .prefixCb⟩
    · obtain ⟨op, b1, b2, -, -, rfl⟩ := decode3_encode i hi
      exact executes_decode3 s op b1 b2
  have hut : u = t := by simpa [hu.exec_eq] using h
  exact hut ▸ hu

end Sys2Proof.Machine
end

section
/-! SUPPORT. What an instruction leaves of `F`, `SP`, the halt state and the form of memory, one lemma each over the families of
`Executes`. -/

namespace Sys2Proof.Machine

open Sys2Proof

/-! ## The shared operations, field by field -/

section
variable (s : State)

@[simp] theorem State.setLoc_f (x : Loc8) (v : Byte) : (s.setLoc x v).f = s.f := by
  cases x <;> simp [State.setLoc]
@[simp] theorem State.setLoc_sp (x : Loc8) (v : Byte) : (s.setLoc x v).sp = s.sp := by
  cases x <;> simp [State.setLoc]
@[simp] theorem State.setLoc_haltActive (x : Loc8) (v : Byte) : (s.setLoc x v).haltActive = s.haltActive := by
  cases x <;> simp [State.setLoc]
@[simp] theorem State.setLoc_haltBug (x : Loc8) (v : Byte) : (s.setLoc x v).haltBug = s.haltBug := by
  cases x <;> simp [State.setLoc]
theorem State.setLoc_wf (hm : Memory.wf s.mem = true) (x : Loc8) (v : Byte) : Memory.wf (s.setLoc x v).mem = true := by
  cases x with
  | reg r => rwa [State.setLoc, State.setReg_mem]
  | memHl => exact s.write_wf hm _ _

@[simp] theorem State.indirectStep_f (m : Indirect) : (s.indirectStep m).f = s.f := by
  cases m <;> simp [State.indirectStep]
@[simp] theorem State.indirectStep_sp (m : Indirect) : (s.indirectStep m).sp = s.sp := by
  cases m <;> simp [State.indirectStep]
@[simp] theorem State.indirectStep_haltActive (m : Indirect) : (s.indirectStep m).haltActive = s.haltActive := by
  cases m <;> simp [State.indirectStep]
@[simp] theorem State.indirectStep_haltBug (m : Indirect) : (s.indirectStep m).haltBug = s.haltBug := by
  cases m <;> simp [State.indirectStep]
@[simp] theorem State.indirectStep_mem (m : Indirect) : (s.indirectStep m).mem = s.mem := by
  cases m <;> simp [State.indirectStep]

@[simp] theorem State.branch_f (b : Bool) (go : State → State) : (s.branch b go).f = if b then (go s).f else s.f :=
  apply_ite ..
@[simp] theorem State.branch_sp (b : Bool) (go : State → State) : (s.branch b go).sp = if b then (go s).sp else s.sp :=
  apply_ite ..
@[simp] theorem State.branch_haltActive (b : Bool) (go : State → State) :
    (s.branch b go).haltActive = if b then (go s).haltActive else s.haltActive :=
  apply_ite ..
@[simp] theorem State.branch_haltBug (b : Bool) (go : State → State) :
    (s.branch b go).haltBug = if b then (go s).haltBug else s.haltBug :=
  apply_ite ..
@[simp] theorem State.branch_mem (b : Bool) (go : State → State) :
    (s.branch b go).mem = if b then (go s).mem else s.mem :=
  apply_ite ..

/-- The work of a CB row writes `F` by flags or not at all (R310). -/
theorem State.cbWork_f (op2 : Byte) : (s.cbWork op2).f = s.f ∨ (s.cbWork op2).f &&& 0x0F#8 = 0#8 := by
  unfold State.cbWork
  split
  · exact .inr (by simp [State.rotate])
  · exact .inr (by simp [State.testBit])
  · exact .inl (by simp [State.clearBit])
  · exact .inl (by simp [State.raiseBit])
@[simp] theorem State.cbWork_sp (op2 : Byte) : (s.cbWork op2).sp = s.sp := by
  unfold State.cbWork
  split <;> simp [State.rotate, State.testBit, State.clearBit, State.raiseBit]
@[simp] theorem State.cbWork_haltActive (op2 : Byte) : (s.cbWork op2).haltActive = s.haltActive := by
  unfold State.cbWork
  split <;> simp [State.rotate, State.testBit, State.clearBit, State.raiseBit]
@[simp] theorem State.cbWork_haltBug (op2 : Byte) : (s.cbWork op2).haltBug = s.haltBug := by
  unfold State.cbWork
  split <;> simp [State.rotate, State.testBit, State.clearBit, State.raiseBit]
theorem State.cbWork_wf (hm : Memory.wf s.mem = true) (op2 : Byte) : Memory.wf (s.cbWork op2).mem = true := by
  unfold State.cbWork
  split
  · exact State.setLoc_wf (s.setFlags _) hm _ _
  · exact hm
  · exact State.setLoc_wf _ hm _ _
  · exact State.setLoc_wf _ hm _ _

end

/-! ## `F` and `SP` -/

/-- The instructions that R22 names as writers of `F`, and `prefixCb`, whose row runs one of them. -/
def Instr.WritesFlags (i : Instr) : Prop :=
  (∃ op x, i = .aluLoc op x) ∨ (∃ op n, i = .aluImm op n) ∨ (∃ x, i = .incLoc x) ∨ (∃ x, i = .decLoc x) ∨
    i ∈ [.daa, .cpl, .scf, .ccf, .popAf, .prefixCb] ∨ (∃ p, i = .addHlPair p) ∨ (∃ e, i = .addSpE e) ∨
    (∃ e, i = .ldHlSpE e) ∨ (∃ o, i = .accRot o) ∨ (∃ o x, i = .rotLoc o x) ∨ (∃ n x, i = .bitLoc n x)

/-- `F` is left as it is, or a writer of flags leaves its low nibble zero (R21, R22). -/
theorem Executes.f_same_or_flags {i : Instr} {s t : State} (h : Executes s i t) :
    t.f = s.f ∨ Instr.WritesFlags i ∧ t.f &&& 0x0F#8 = 0#8 := by
  cases h with
  | aluReg op r => exact .inr ⟨.inl ⟨op, .reg r, rfl⟩, by simp [State.alu]⟩
  | aluMem op => exact .inr ⟨.inl ⟨op, .memHl, rfl⟩, by simp [State.alu]⟩
  | aluImm op n => exact .inr ⟨.inr (.inl ⟨op, n, rfl⟩), by simp [State.alu]⟩
  | incReg r => exact .inr ⟨.inr (.inr (.inl ⟨.reg r, rfl⟩)), by simp⟩
  | incMemHl => exact .inr ⟨.inr (.inr (.inl ⟨.memHl, rfl⟩)), by simp⟩
  | decReg r => exact .inr ⟨.inr (.inr (.inr (.inl ⟨.reg r, rfl⟩))), by simp⟩
  | decMemHl => exact .inr ⟨.inr (.inr (.inr (.inl ⟨.memHl, rfl⟩))), by simp⟩
  | daa => exact .inr ⟨by simp [Instr.WritesFlags], by simp⟩
  | cpl => exact .inr ⟨by simp [Instr.WritesFlags], by simp⟩
  | scf => exact .inr ⟨by simp [Instr.WritesFlags], by simp⟩
  | ccf => exact .inr ⟨by simp [Instr.WritesFlags], by simp⟩
  | pop q =>
    cases q with
    | af => exact .inr ⟨by simp [Instr.WritesFlags, Instr.pop], by simp⟩
    | _ => exact .inl (by simp)
  | prefixCb =>
    refine (State.cbWork_f _ _).imp (fun h => ?_) fun h => ⟨by simp [Instr.WritesFlags], h⟩
    rw [h, State.past_f]
  | addHlPair p => exact .inr ⟨.inr (.inr (.inr (.inr (.inr (.inl ⟨p, rfl⟩))))), by simp⟩
  | addSpE e => exact .inr ⟨by simp [Instr.WritesFlags], by simp⟩
  | ldHlSpE e => exact .inr ⟨by simp [Instr.WritesFlags], by simp⟩
  | accRot o => exact .inr ⟨.inr (.inr (.inr (.inr (.inr (.inr (.inr (.inr (.inl ⟨o, rfl⟩)))))))), by simp⟩
  | rotLoc o x =>
    exact .inr ⟨.inr (.inr (.inr (.inr (.inr (.inr (.inr (.inr (.inr (.inl ⟨o, x, rfl⟩))))))))), by simp [State.rotate]⟩
  | bitLoc n x =>
    exact .inr ⟨.inr (.inr (.inr (.inr (.inr (.inr (.inr (.inr (.inr (.inr ⟨n, x, rfl⟩))))))))), by simp [State.testBit]⟩
  | _ => exact .inl (by simp [State.clearBit, State.raiseBit, State.jumpBy])

/-- `SP` is left as it is by every family but those that R24 lists. -/
theorem Executes.sp_same_or_writesSp {i : Instr} {s t : State} (h : Executes s i t) :
    t.sp = s.sp ∨ (∃ nn, i = .ldPairImm .sp nn) ∨ i ∈ [.ldSpHl, .incSp, .decSp, .ret, .reti] ∨ (∃ e, i = .addSpE e) ∨
      (∃ q, i = .push q) ∨ (∃ q, i = .pop q) ∨ (∃ nn, i = .callNn nn) ∨ (∃ k nn, i = .callCond k nn) ∨
      (∃ k, i = .retCond k) ∨ (∃ y, i = .rst y) := by
  cases h with
  | ldPairImm p nn =>
    cases p with
    | sp => exact .inr (.inl ⟨nn, rfl⟩)
    | _ => exact .inl (by simp)
  | incPair p =>
    cases p with
    | sp => simp [Instr.incPair]
    | _ => exact .inl (by simp)
  | decPair p =>
    cases p with
    | sp => simp [Instr.decPair]
    | _ => exact .inl (by simp)
  | ldSpHl => simp
  | ret => simp
  | reti => simp
  | addSpE e => simp
  | callNn nn => simp
  | push q => simp
  | pop q => simp
  | callCond k nn => exact .inr (.inr (.inr (.inr (.inr (.inr (.inr (.inl ⟨k, nn, rfl⟩)))))))
  | retCond k => exact .inr (.inr (.inr (.inr (.inr (.inr (.inr (.inr (.inl ⟨k, rfl⟩))))))))
  | rst y => exact .inr (.inr (.inr (.inr (.inr (.inr (.inr (.inr (.inr ⟨y, rfl⟩))))))))
  | _ => exact .inl (by simp [State.alu, State.rotate, State.testBit, State.clearBit, State.raiseBit, State.jumpBy])

/-! ## The halt state and memory -/

/-- `HALT` alone enters the halt state; the opcode fetch consumes `HALT_BUG` (R33, R34). -/
theorem Executes.halt_same {i : Instr} {s t : State} (h : Executes s i t) (hi : i ≠ .halt) :
    t.haltActive = s.haltActive ∧ t.haltBug = false := by
  cases h with
  | halt => contradiction
  | _ => simp [State.alu, State.rotate, State.testBit, State.clearBit, State.raiseBit, State.jumpBy]

/-- No instruction of a running machine leaves it halted under the halt bug: `HALT` does one or the other (R372). -/
theorem Executes.not_halted_under_bug {i : Instr} {s t : State} (h : Executes s i t) (ha : s.haltActive = false) :
    ¬ (t.haltActive = true ∧ t.haltBug = true) := by
  by_cases hi : i = .halt
  · subst hi
    have ht : (s.past 1).halt = t := by simpa [exec_halt, haltCore] using h.exec_eq
    rw [← ht, State.halt_haltActive, State.halt_haltBug, State.past_haltActive, State.past_one_haltBug, ha]
    split <;> simp
  · simp [h.halt_same hi]

/-- Every instruction keeps the canonical form of memory: it stores on the bus or not at all. -/
theorem Executes.wf {i : Instr} {s t : State} (h : Executes s i t) (hm : Memory.wf s.mem = true) :
    Memory.wf t.mem = true := by
  cases h with
  | ldMemReg | ldMemHlN | ldMemNnA | ldhMemCA | ldhMemNA | incMemHl | decMemHl =>
    exact State.write_wf _ (by simpa using hm) _ _
  | ldIndirectA m => rw [State.indirectStep_mem]; exact State.write_wf _ (by simpa using hm) _ _
  | ldMemNnSp nn => exact State.write_wf _ (State.write_wf _ (by simpa using hm) _ _) _ _
  | push q => exact State.pushWord_wf _ (by simpa using hm) _
  | callNn | rst => rw [State.call_mem]; exact State.pushWord_wf _ (by simpa using hm) _
  | callCond k nn =>
    rw [State.branch_mem]
    split
    · rw [State.call_mem]; exact State.pushWord_wf _ (by simpa using hm) _
    · simpa using hm
  | rotLoc | resLoc | setLoc => exact State.setLoc_wf _ (by simpa using hm) _ _
  | prefixCb => exact State.cbWork_wf _ (by simpa using hm) _
  | _ => simpa [State.alu, State.testBit, State.jumpBy] using hm

end Sys2Proof.Machine

open Sys2Proof Sys2Proof.Machine

/-- Settles O21: an instruction of a family that R22 does not name leaves `F` as it is. -/
theorem onlyFlagWritersChangeF : Obligations.OnlyFlagWritersChangeF := by
  intro i s t h hf
  obtain hs | ⟨hw, -⟩ := (Executes.of_exec h).f_same_or_flags
  · exact absurd hs hf
  · exact hw

/-- Settles O23: an instruction of a family that R24 does not list leaves `SP` as it is. -/
theorem stackPointerHasFewWriters : Obligations.StackPointerHasFewWriters := by
  intro i s t h hsp
  obtain hs | hw := (Executes.of_exec h).sp_same_or_writesSp
  · exact absurd hs hsp
  · exact hw
end

section
/-! SUPPORT. The machine cycle keeps the invariant and answers a next state; the pipeline in flight ends. -/

namespace Sys2Proof.Machine

open Sys2Proof

/-! ## The invariant, clause by clause -/

/-- The clauses of the invariant that do not speak of `PIPE` and `SCRATCH`. -/
structure State.Sound (s : State) : Prop where
  low : s.f &&& 0x0F#8 = 0#8
  halts : ¬ (s.haltActive = true ∧ s.haltBug = true)
  wf : Memory.wf s.mem = true

theorem State.inv_iff (s : State) : s.Inv = true ↔ s.Sound ∧ s.PipeInv = true := by
  simp only [State.Inv, Bool.and_eq_true, beq_iff_eq, Bool.not_eq_true', Bool.and_eq_false_imp]
  constructor
  · rintro ⟨⟨⟨hlow, hpipe⟩, hhalts⟩, hwf⟩
    exact ⟨⟨hlow, fun h => by simp [hhalts h.1] at h, hwf⟩, hpipe⟩
  · rintro ⟨⟨hlow, hhalts, hwf⟩, hpipe⟩
    exact ⟨⟨⟨hlow, hpipe⟩, fun h => by simpa [h] using hhalts⟩, hwf⟩

/-- A cursor names a row after the first, and the scratch stack has the depth the rows before it leave (R29, R39(b)). -/
def Pipe.Ready (p : Pipe) (depth : Nat) : Prop :=
  2 ≤ p.row ∧ p.row ≤ p.template.rows.length ∧ p.template.depthBefore p.row = some depth

theorem State.pipeInv_of_none {s : State} (hp : s.pipe = none) : s.PipeInv = true ↔ s.scratch = [] := by
  simp [State.PipeInv, hp]

theorem State.pipeInv_of_some {s : State} {p : Pipe} (hp : s.pipe = some p) :
    s.PipeInv = true ↔ p.Ready s.scratch.length ∧ s.haltActive = false := by
  simp [State.PipeInv, Pipe.Ready, hp, and_assoc]

theorem State.Sound.inv_of_boundary {s : State} (h : s.Sound) (hp : s.pipe = none) (hs : s.scratch = []) :
    s.Inv = true :=
  s.inv_iff.mpr ⟨h, (State.pipeInv_of_none hp).mpr hs⟩

/-- What keeps `F`'s low nibble and the form of memory, and does not halt under the halt bug, keeps the state sound. -/
theorem State.Sound.of_keeps {s t : State} (h : s.Sound) (k : RowKeeps s t)
    (hh : ¬ (t.haltActive = true ∧ t.haltBug = true)) : t.Sound :=
  ⟨k.low h.low, hh, k.wf h.wf⟩

/-- Leaving the halt state keeps the state sound. -/
theorem State.Sound.woken {s : State} (h : s.Sound) : s.woken.Sound := ⟨h.low, by simp, h.wf⟩

/-! ## The templates: finite facts of the opcode tables -/

/-- A row that is no opcode fetch and does not `HALT`. -/
abbrev Row.Plain (r : Row) : Prop := r.bus ≠ .fetch ∧ .halt ∉ r.pre ∧ .halt ∉ r.post

/-- At most six rows, no scratch underflow from the first to the last, and plain rows after the first. -/
abbrev Template.Regular (t : Template) : Prop :=
  t.rows.length ≤ 6 ∧ (rowsDepth t.rows 0).isSome ∧ ∀ r ∈ t.rows.tail, r.Plain

theorem Template.regular_base (op : Byte) : (Template.base op).Regular := by revert op; decide

theorem Template.regular_cb (op2 : Byte) : (Template.cb op2).Regular := by revert op2; decide

theorem Template.regular (t : Template) : t.Regular := by
  cases t with
  | base op => exact regular_base op
  | cb op2 => exact regular_cb op2
  | dispatch k => cases k <;> decide

/-- The opcode that halts has one row, with no other immediate step. -/
theorem baseRows_of_halt (op : Byte) : .halt ∈ (baseRows op).1 → baseRows op = ([.halt], []) := by
  revert op; decide

theorem cbRows_ne_nil (op2 : Byte) : cbRows op2 ≠ [] := by
  unfold cbRows
  split <;> simp

/-! ## The depth of the scratch stack along a template -/

theorem rowsDepth_append (xs ys : List Row) (d : Nat) :
    rowsDepth (xs ++ ys) d = (rowsDepth xs d).bind (rowsDepth ys) := by
  induction xs generalizing d with
  | nil => rfl
  | cons x xs ih =>
    simp only [List.cons_append, rowsDepth]
    cases x.depth d with
    | none => rfl
    | some k => exact ih k

theorem rowsDepth_singleton (r : Row) (d : Nat) : rowsDepth [r] d = r.depth d := by
  simp only [rowsDepth]
  cases r.depth d <;> rfl

/-- The depth after a row is the depth before the next: no row of a template underflows. -/
theorem Template.depthBefore_next {t : Template} {n d : Nat} {r : Row} (hr : t.rows[n]? = some r)
    (hd : t.depthBefore (n + 1) = some d) : ∃ d', r.depth d = some d' ∧ t.depthBefore (n + 2) = some d' := by
  obtain ⟨-, htotal, -⟩ := t.regular
  have hnext : t.depthBefore (n + 2) = r.depth d := by
    change rowsDepth (t.rows.take n) 0 = some d at hd
    change rowsDepth (t.rows.take (n + 1)) 0 = r.depth d
    rw [List.take_add_one, hr, rowsDepth_append, hd]
    exact rowsDepth_singleton r d
  have hsome : (t.depthBefore (n + 2)).isSome := by
    change (rowsDepth (t.rows.take (n + 1)) 0).isSome
    rw [← List.take_append_drop (n + 1) t.rows, rowsDepth_append] at htotal
    exact Option.isSome_of_isSome_bind htotal
  obtain ⟨d', hd'⟩ := Option.isSome_iff_exists.mp hsome
  exact ⟨d', hnext ▸ hd', hd'⟩

/-! ## One row -/

/-- A row runs exactly when its three parts do, in order. -/
theorem Row.run_eq_some_iff {r : Row} {s t : State} {op : BusOp} :
    r.run s = some (op, t) ↔
      ∃ s1 s2, runMicros r.pre s = some s1 ∧ r.bus.run s1 = some (op, s2) ∧ runMicros r.post s2 = some t := by
  constructor
  · intro h
    simp only [Row.run] at h
    split at h
    · cases h
    next s1 h1 =>
      split at h
      · cases h
      next bop s2 h2 =>
        split at h
        · cases h
        next s3 h3 =>
          obtain ⟨rfl, rfl⟩ := Prod.mk.inj (Option.some.inj h)
          exact ⟨s1, s2, h1, h2, h3⟩
  · rintro ⟨s1, s2, h1, h2, h3⟩
    simp only [Row.run, h1, h2, h3]

/-- A plain row leaves the halt state and the halt bug as they are (R33, R34). -/
theorem Row.Plain.run_halt {r : Row} (hr : r.Plain) {s t : State} {op : BusOp} (h : r.run s = some (op, t)) :
    t.haltActive = s.haltActive ∧ t.haltBug = s.haltBug := by
  obtain ⟨hbus, hpre, hpost⟩ := hr
  obtain ⟨s1, s2, h1, h2, h3⟩ := Row.run_eq_some_iff.mp h
  obtain ⟨ha1, hb1⟩ := runMicros_halt _ _ _ h1 hpre
  obtain ⟨ha2, hb2⟩ := r.bus.run_halt _ _ _ h2
  obtain ⟨ha3, hb3⟩ := runMicros_halt _ _ _ h3 hpost
  rw [if_neg hbus] at hb2
  exact ⟨ha3.trans (ha2.trans ha1), hb3.trans (hb2.trans hb1)⟩

/-- A row that has run into a sound state, with the next row ready where there is one, leaves a good state: retired, or with the
cursor at the next row. -/
theorem runRow_of_run {T : Template} {n : Nat} {r : Row} {s t : State} {op : BusOp} (hr : T.rows[n]? = some r)
    (hrun : r.run s = some (op, t)) (ht : t.Sound)
    (hnext : n + 1 < T.rows.length → t.haltActive = false ∧ T.depthBefore (n + 2) = some t.scratch.length) :
    ∃ u, runRow ⟨T, n + 1⟩ s = .next (op, u) ∧ u.Inv = true ∧ (u.pipe = none ∨ u.pipe = some ⟨T, n + 2⟩) := by
  have hn : n < T.rows.length := (List.getElem?_eq_some_iff.mp hr).1
  simp only [runRow, hr, hrun]
  split
  next => exact ⟨_, rfl, State.Sound.inv_of_boundary ⟨ht.low, ht.halts, ht.wf⟩ rfl rfl, .inl rfl⟩
  next hmore =>
    simp only [Bool.or_eq_true, decide_eq_true_eq, not_or] at hmore
    obtain ⟨hactive, hdepth⟩ := hnext (by omega)
    have hready : Pipe.Ready ⟨T, n + 2⟩ t.scratch.length := ⟨by simp, by change n + 2 ≤ T.rows.length; omega, hdepth⟩
    exact ⟨_, rfl, (State.inv_iff _).mpr ⟨⟨ht.low, ht.halts, ht.wf⟩, (State.pipeInv_of_some rfl).mpr ⟨hready, hactive⟩⟩,
      .inr rfl⟩

/-- A plain row at the depth its template gives, in a running state, runs and leaves a good state. -/
theorem runRow_plain {T : Template} {n : Nat} {r : Row} {s : State} (hr : T.rows[n]? = some r) (hplain : r.Plain)
    (hd : T.depthBefore (n + 1) = some s.scratch.length) (hs : s.Sound) (ha : s.haltActive = false) :
    ∃ op u, runRow ⟨T, n + 1⟩ s = .next (op, u) ∧ u.Inv = true ∧ (u.pipe = none ∨ u.pipe = some ⟨T, n + 2⟩) := by
  obtain ⟨d, hrd, hnext⟩ := Template.depthBefore_next hr hd
  obtain ⟨op, t, hrun, hlen⟩ := r.run_total s d hplain.1 hrd
  have hactive : t.haltActive = false := (hplain.run_halt hrun).1.trans ha
  exact ⟨op, runRow_of_run hr hrun (hs.of_keeps (r.run_keeps s t op hrun) (by simp [hactive]))
    fun _ => ⟨hactive, hlen ▸ hnext⟩⟩

/-- The immediate steps after an opcode fetch do not halt under the halt bug, and do not halt at all where rows follow. -/
theorem runMicros_baseRows_halt {op : Byte} {s t : State} (h : runMicros (baseRows op).1 s = some t)
    (ha : s.haltActive = false) (hb : s.haltBug = false) :
    ¬ (t.haltActive = true ∧ t.haltBug = true) ∧ ((baseRows op).2 ≠ [] → t.haltActive = false) := by
  by_cases hhalt : .halt ∈ (baseRows op).1
  · have hrows := baseRows_of_halt op hhalt
    rw [hrows] at h ⊢
    have ht : s.halt = t := by simpa [runMicros, Micro.run] using h
    refine ⟨?_, fun hne => absurd rfl hne⟩
    rw [← ht, State.halt_haltActive, State.halt_haltBug, ha, hb]
    split <;> simp
  · obtain ⟨hactive, -⟩ := runMicros_halt _ _ _ h hhalt
    simp [hactive, ha]

/-- The first row of a base template: the opcode fetch and the immediate steps grouped with it (R174, R180). -/
def fetchRow (op : Byte) : Row := { bus := .fetch, post := (baseRows op).1 }

/-- The opcode fetch's row, in a running state, runs and leaves a good state. -/
theorem runRow_fetch (op : Byte) {s : State} (hs : s.Sound) (ha : s.haltActive = false) :
    ∃ bop u, runRow ⟨.base op, 1⟩ s = .next (bop, u) ∧ u.Inv = true := by
  have hr : (Template.base op).rows[0]? = some (fetchRow op) := rfl
  obtain ⟨d, hrd, hnext⟩ := Template.depthBefore_next (d := 0) hr rfl
  have hpost : depthAfter ((baseRows op).1.map Micro.arity) 0 = some d := by
    simpa [fetchRow, Row.depth, depthAfter, BusStep.arity] using hrd
  obtain ⟨t, ht, hlen⟩ := runMicros_total (baseRows op).1 { s.pastOpcode with scratch := [] } d hpost
  obtain ⟨hnot, hrest⟩ := runMicros_baseRows_halt ht ha rfl
  have hrun : (fetchRow op).run s = some (.read s.pc, t) := Row.run_eq_some_iff.mpr ⟨s, _, rfl, rfl, ht⟩
  obtain ⟨u, hu, hinv, -⟩ := runRow_of_run hr hrun (hs.of_keeps ((fetchRow op).run_keeps s t _ hrun) hnot)
    fun hlt => ⟨hrest (List.ne_nil_of_length_pos (by simpa [Template.rows] using hlt)), hlen ▸ hnext⟩
  exact ⟨_, u, hu, hinv⟩

/-- The first row of a dispatch, in a running state with an empty scratch stack, runs and leaves a good state. -/
theorem runRow_dispatch (k : IrqSource) {s : State} (hs : s.Sound) (ha : s.haltActive = false) (hsc : s.scratch = []) :
    ∃ op u, runRow ⟨.dispatch k, 1⟩ s = .next (op, u) ∧ u.Inv = true := by
  have hplain : Row.Plain { pre := [.enterDispatch k, .pushHi .pc], bus := .stackWrite } := by simp [Row.Plain]
  obtain ⟨op, u, hu, hinv, -⟩ := runRow_plain (T := .dispatch k) (n := 0) rfl hplain (by rw [hsc]; rfl) hs ha
  exact ⟨op, u, hu, hinv⟩

/-! ## One machine cycle -/

theorem cycle_eq_next {s t : State} {op : BusOp} (h : cycleWithBus s = .next (op, t)) : cycle s = .next t := by
  rw [cycle, h]

/-- A machine cycle from a good boundary answers a good state. -/
theorem cycle_safe_of_boundary {s : State} (h : s.Inv = true) (hp : s.pipe = none) : SafeOutcome (cycle s) := by
  obtain ⟨hs, hpipe⟩ := s.inv_iff.mp h
  have hsc := (State.pipeInv_of_none hp).mp hpipe
  cases hb : s.boundary with
  | idle => exact ⟨s, cycle_eq_next (op := .internal) (by simp only [cycleWithBus, hp, hb]), h⟩
  | dispatch k =>
    obtain ⟨op, u, hu, hinv⟩ := runRow_dispatch k hs.woken rfl hsc
    exact ⟨u, cycle_eq_next (by simpa only [cycleWithBus, hp, hb] using hu), hinv⟩
  | fetch =>
    obtain ⟨op, u, hu, hinv⟩ := runRow_fetch (s.woken.read s.woken.pc) hs.woken rfl
    exact ⟨u, cycle_eq_next (by simpa only [cycleWithBus, hp, hb] using hu), hinv⟩

/-- The CB table's template takes over from that of `0xCB` with its second row ready (R376). -/
theorem Pipe.Ready.resolve {p : Pipe} {d : Nat} (h : p.Ready d) (s : State) : (p.resolve s).Ready d := by
  unfold Pipe.resolve
  split
  next hp =>
    subst hp
    obtain ⟨-, -, hd⟩ := h
    have hpos := List.length_pos_of_ne_nil (cbRows_ne_nil (s.read s.pc))
    exact ⟨le_rfl, Nat.succ_le_succ hpos, hd⟩
  next => exact h

/-- A cursor past the second row is in the template it stays in. -/
theorem Pipe.resolve_of_row {p : Pipe} (h : 3 ≤ p.row) (s : State) : p.resolve s = p :=
  if_neg fun hp => by simp [hp] at h

/-- How many rows of the pipeline in flight are still to run. -/
def State.rowsLeft (s : State) : Nat :=
  match s.pipe with
  | none => 0
  | some p => (p.resolve s).template.rows.length + 1 - (p.resolve s).row

theorem State.rowsLeft_of_none {s : State} (h : s.pipe = none) : s.rowsLeft = 0 := by simp only [State.rowsLeft, h]

theorem State.rowsLeft_of_some {s : State} {p : Pipe} (h : s.pipe = some p) :
    s.rowsLeft = (p.resolve s).template.rows.length + 1 - (p.resolve s).row := by
  simp only [State.rowsLeft, h]

/-- A machine cycle of a pipeline in flight answers a good state with fewer rows left. -/
theorem cycle_safe_of_pipe {s : State} {p : Pipe} (h : s.Inv = true) (hp : s.pipe = some p) :
    ∃ t, cycle s = .next t ∧ t.Inv = true ∧ t.rowsLeft < s.rowsLeft := by
  obtain ⟨hs, hpipe⟩ := s.inv_iff.mp h
  obtain ⟨hready, ha⟩ := (State.pipeInv_of_some hp).mp hpipe
  rw [State.rowsLeft_of_some hp]
  have hcycle : cycleWithBus s = runRow (p.resolve s) s := by simp only [cycleWithBus, hp]
  rcases hq : p.resolve s with ⟨T, row⟩
  obtain ⟨hrow, hlen, hd⟩ : Pipe.Ready ⟨T, row⟩ s.scratch.length := hq ▸ hready.resolve s
  obtain ⟨n, rfl⟩ : ∃ n, row = n + 2 := Nat.exists_eq_add_of_le' hrow
  replace hlen : n + 1 < T.rows.length := hlen
  obtain ⟨-, -, htail⟩ := T.regular
  have hplain : Row.Plain T.rows[n + 1] :=
    htail _ (List.mem_iff_getElem.mpr ⟨n, by rw [List.length_tail]; omega, List.getElem_tail _⟩)
  obtain ⟨op, u, hu, hinv, hnext⟩ := runRow_plain (List.getElem?_eq_getElem hlen) hplain hd hs ha
  refine ⟨u, cycle_eq_next (hcycle.trans (hq ▸ hu)), hinv, ?_⟩
  change u.rowsLeft < T.rows.length + 1 - (n + 2)
  obtain hnone | hsome := hnext
  · rw [State.rowsLeft_of_none hnone]
    omega
  · rw [State.rowsLeft_of_some hsome, Pipe.resolve_of_row (Nat.le_add_left 3 n)]
    change T.rows.length + 1 - (n + 3) < T.rows.length + 1 - (n + 2)
    omega

/-- A machine cycle from a good state answers a good state (R39, R185). -/
theorem cycle_safe {s : State} (h : s.Inv = true) : SafeOutcome (cycle s) := by
  cases hp : s.pipe with
  | none => exact cycle_safe_of_boundary h hp
  | some p =>
    obtain ⟨t, ht, hinv, -⟩ := cycle_safe_of_pipe h hp
    exact ⟨t, ht, hinv⟩

/-- At most five rows of a pipeline in flight are still to run (R188, R466). -/
theorem State.rowsLeft_le_five {s : State} (h : s.Inv = true) : s.rowsLeft ≤ 5 := by
  cases hp : s.pipe with
  | none => simp [State.rowsLeft_of_none hp]
  | some p =>
    obtain ⟨-, hpipe⟩ := s.inv_iff.mp h
    obtain ⟨hready, -⟩ := (State.pipeInv_of_some hp).mp hpipe
    obtain ⟨hrow, -, -⟩ := hready.resolve s
    obtain ⟨hlen, -, -⟩ := (p.resolve s).template.regular
    rw [State.rowsLeft_of_some hp]
    omega

/-- A good state with a pipeline in flight has rows left. -/
theorem State.rowsLeft_pos {s : State} {p : Pipe} (h : s.Inv = true) (hp : s.pipe = some p) : 0 < s.rowsLeft := by
  obtain ⟨t, -, -, hlt⟩ := cycle_safe_of_pipe h hp
  exact Nat.zero_lt_of_lt hlt

theorem cyclesToBoundary_of_none (n : Nat) {s : State} (h : s.pipe = none) : cyclesToBoundary n s = .next s := by
  cases n <;> simp only [cyclesToBoundary, h]

theorem cyclesToBoundary_succ (n : Nat) {s t : State} {p : Pipe} (hp : s.pipe = some p) (ht : cycle s = .next t) :
    cyclesToBoundary (n + 1) s = cyclesToBoundary n t := by
  rw [cyclesToBoundary.eq_def]
  simp only [hp, ht]

/-- Cycles enough for the rows that are left reach a boundary, in a good state. -/
theorem cyclesToBoundary_safe {n : Nat} {s : State} (h : s.Inv = true) (hn : s.rowsLeft ≤ n) :
    SafeOutcome (cyclesToBoundary n s) := by
  induction n generalizing s with
  | zero =>
    cases hp : s.pipe with
    | none => exact ⟨s, cyclesToBoundary_of_none 0 hp, h⟩
    | some p => exact absurd (State.rowsLeft_pos h hp) (by omega)
  | succ n ih =>
    cases hp : s.pipe with
    | none => exact ⟨s, cyclesToBoundary_of_none (n + 1) hp, h⟩
    | some p =>
      obtain ⟨t, ht, hinv, hlt⟩ := cycle_safe_of_pipe h hp
      rw [cyclesToBoundary_succ n hp ht]
      exact ih hinv (by omega)

/-! ## One step -/

/-- An instruction from a good boundary, retired, leaves a good boundary. -/
theorem runInstr_safe {s : State} (hs : s.Sound) (ha : s.haltActive = false) : SafeOutcome (runInstr s) := by
  obtain ⟨t, ht⟩ := exec_completes s s.fetchInstr
  have he := Executes.of_exec ht
  have hlow : t.f &&& 0x0F#8 = 0#8 := by
    obtain hf | ⟨-, hf⟩ := he.f_same_or_flags
    · exact hf ▸ hs.low
    · exact hf
  refine ⟨t.retire (commitsEnable s.fetchInstr), by simp only [runInstr, ht], ?_⟩
  exact State.Sound.inv_of_boundary ⟨hlow, he.not_halted_under_bug ha, he.wf hs.wf⟩ rfl rfl

/-- Taking an interrupt from a good boundary leaves a good boundary (R408). -/
theorem takeInterrupt_inv {s : State} (hs : s.Sound) (ha : s.haltActive = false) (k : IrqSource) :
    (s.takeInterrupt k).Inv = true := by
  have hhalts : ¬ ((s.takeInterrupt k).haltActive = true ∧ (s.takeInterrupt k).haltBug = true) := fun h =>
    absurd (ha.symm.trans h.1) Bool.false_ne_true
  exact State.Sound.inv_of_boundary ⟨hs.low, hhalts, State.pushWord_wf _ (s.enterDispatch_wf hs.wf k) _⟩ rfl rfl

/-- A step from a good state answers a good state: the rest of a pipeline, an idle cycle, a dispatch, or an instruction. -/
theorem step_safe {s : State} (h : s.Inv = true) : SafeOutcome (step s) := by
  obtain ⟨hs, -⟩ := s.inv_iff.mp h
  cases hp : s.pipe with
  | some p =>
    simpa only [step, hp] using cyclesToBoundary_safe h ((State.rowsLeft_le_five h).trans (by decide))
  | none =>
    cases hb : s.boundary with
    | idle => exact ⟨s, by simp only [step, hp, hb], h⟩
    | dispatch k => exact ⟨_, by simp only [step, hp, hb], takeInterrupt_inv hs.woken rfl k⟩
    | fetch => simpa only [step, hp, hb] using runInstr_safe hs.woken rfl

/-! ## Every reachable state -/

theorem create_inv (hasKey1 : Bool) {r : ResetState} {mem : List Host.Cell} (hf : r.wf = true)
    (hh : (r.haltActive && r.haltBug) = false) (hm : Memory.wf mem = true) : (State.create hasKey1 r mem).Inv = true :=
  State.Sound.inv_of_boundary ⟨eq_of_beq hf, by simpa [State.create] using hh, hm⟩ rfl rfl

/-- `setRegisters` is possible at a boundary only, and keeps the invariant: `F` is masked (R451). -/
theorem setRegisters_inv {s t : State} {r : Registers} (h : s.Inv = true) (ht : s.setRegisters r = some t) :
    t.Inv = true := by
  obtain ⟨hs, hpipe⟩ := s.inv_iff.mp h
  unfold State.setRegisters at ht
  split at ht
  · cases ht
  next hp =>
    cases ht
    exact State.Sound.inv_of_boundary ⟨maskF_low _, hs.halts, hs.wf⟩ hp ((State.pipeInv_of_none hp).mp hpipe)

/-- Bytes behind the bus that change, in canonical form, keep the invariant. -/
theorem setMem_inv {s : State} (h : s.Inv = true) {mem : List Host.Cell} (hm : Memory.wf mem = true) :
    State.Inv { s with mem := mem } = true := by
  obtain ⟨hs, hpipe⟩ := s.inv_iff.mp h
  exact (State.inv_iff _).mpr ⟨⟨hs.low, hs.halts, hm⟩, hpipe⟩

theorem envMove_inv {s : State} (h : s.Inv = true) (m : EnvMove) : (m.apply s).Inv = true := by
  obtain ⟨hs, -⟩ := s.inv_iff.mp h
  cases m with
  | requestInterrupt k => exact setMem_inv h (Memory.wf_memWrite hs.wf ifAddr _)
  | setByte addr v => exact setMem_inv h (Memory.wf_memWrite hs.wf addr v)

/-- The invariant holds at creation and is kept by every move, so it holds of every reachable state (R39). -/
theorem Reachable.inv {s : State} (h : Reachable s) : s.Inv = true := by
  induction h with
  | create hasKey1 r mem hf hh hm => exact create_inv hasKey1 hf hh hm
  | cycle s t _ ht ih =>
    obtain ⟨u, hu, hinv⟩ := cycle_safe ih
    have hut : u = t := by simpa [hu] using ht
    exact hut ▸ hinv
  | setRegisters s t r _ ht ih => exact setRegisters_inv ih ht
  | environment s m _ ih => exact envMove_inv ih m

/-- A halted boundary with nothing pending idles (R414). -/
theorem cycle_idle {s : State} (hp : s.pipe = none) (ha : s.haltActive = true) (hpend : s.pend = 0#8) :
    cycle s = .next s :=
  cycle_eq_next (op := .internal) (by simp [cycleWithBus, hp, State.boundary, ha, hpend])

end Sys2Proof.Machine

open Sys2Proof Sys2Proof.Machine

/-- Settles O15, by the boundary decision; a pipeline in flight ends because each cycle leaves fewer rows. -/
theorem stepKeepsTheInvariant : Obligations.StepKeepsTheInvariant :=
  fun _ h => step_safe h

/-- Settles O17: the invariant holds of every reachable state, and gives the four properties and the next cycle. -/
theorem reachableStatesAreGood : Obligations.ReachableStatesAreGood := by
  intro s hr
  obtain ⟨hs, hpipe⟩ := s.inv_iff.mp hr.inv
  obtain ⟨t, ht, -⟩ := cycle_safe hr.inv
  exact ⟨hs.low, fun hp => (State.pipeInv_of_none hp).mp hpipe, cycle_idle, hs.halts, t, ht⟩
end

section
/-! SUPPORT. What reads say of a memory in canonical form, and what a call of the environment leaves of the bus. -/

namespace Sys2Proof.Machine

open Sys2Proof

/-! ## Canonical memories -/

/-- Only addresses from the bound on are listed. -/
theorem le_of_memRead_ne {lo a : Nat} {m : List Host.Cell} (hm : memWfFrom lo m = true)
    (h : memRead m a ≠ unlistedByte) : lo ≤ a :=
  not_lt.mp fun hlt => h (memRead_below hm hlt)

/-- The lowest listed address lies at or below that of a memory that reads the same there. -/
theorem firstAddr_le {lo k k' : Nat} {v v' : Byte} {m m' : List Host.Cell}
    (hm : memWfFrom lo ((k, v) :: m) = true) (hm' : memWfFrom lo ((k', v') :: m') = true)
    (h : memRead ((k, v) :: m) k' = memRead ((k', v') :: m') k') : k ≤ k' := by
  obtain ⟨-, hk, hv, htail⟩ := (memWfFrom_cons ..).mp hm
  obtain ⟨-, -, hv', -⟩ := (memWfFrom_cons ..).mp hm'
  refine le_of_memRead_ne ((memWfFrom_cons ..).mpr ⟨le_rfl, hk, hv, htail⟩) ?_
  rwa [h, memRead_cons, if_pos rfl]

/-- A memory that lists a cell does not read like the empty one at that cell's address. -/
theorem memRead_firstAddr_ne {lo k : Nat} {v : Byte} {m : List Host.Cell} (hm : memWfFrom lo ((k, v) :: m) = true) :
    k < 65536 ∧ memRead ((k, v) :: m) k ≠ memRead [] k := by
  obtain ⟨-, hk, hv, -⟩ := (memWfFrom_cons ..).mp hm
  exact ⟨hk, by rwa [memRead_cons, if_pos rfl, memRead_nil]⟩

/-- Two memories in canonical form that read alike are the same list: they list the same lowest address with the same byte, and
the rest reads alike because nothing up to that address is listed in it. -/
theorem eq_of_memRead_eq {lo : Nat} {m m' : List Host.Cell} (hm : memWfFrom lo m = true) (hm' : memWfFrom lo m' = true)
    (h : ∀ a < 65536, memRead m a = memRead m' a) : m = m' := by
  induction m generalizing lo m' with
  | nil =>
    cases m' with
    | nil => rfl
    | cons c' m' =>
      obtain ⟨hk', hne⟩ := memRead_firstAddr_ne hm'
      exact absurd (h _ hk').symm hne
  | cons c m ih =>
    obtain ⟨k, v⟩ := c
    obtain ⟨-, hk, -, htail⟩ := (memWfFrom_cons ..).mp hm
    cases m' with
    | nil =>
      obtain ⟨-, hne⟩ := memRead_firstAddr_ne hm
      exact absurd (h _ hk) hne
    | cons c' m' =>
      obtain ⟨k', v'⟩ := c'
      obtain ⟨-, hk', -, htail'⟩ := (memWfFrom_cons ..).mp hm'
      obtain rfl : k = k' := le_antisymm (firstAddr_le hm hm' (h k' hk')) (firstAddr_le hm' hm (h k hk).symm)
      obtain rfl : v = v' := by simpa only [memRead_cons, if_pos] using h k hk
      have hrest : ∀ a < 65536, memRead m a = memRead m' a := fun a ha => by
        by_cases hak : a ≤ k
        · rw [memRead_below htail (Nat.lt_succ_of_le hak), memRead_below htail' (Nat.lt_succ_of_le hak)]
        · simpa only [memRead_cons, if_neg (show ¬ a = k by omega)] using h a ha
      rw [ih htail htail' hrest]

/-! ## The environment's moves -/

variable (s : State)

/-- The bit of a source in the byte of the flags. -/
theorem IrqSource.getLsbD_mask (k : IrqSource) (i : Fin 8) : (1#8 <<< k.bit).getLsbD i = decide (i.val = k.bit) := by
  revert i
  cases k <;> decide

/-- `IF` is not KEY1's address, so a request is a store of the flags on the bus. -/
theorem State.requestInterrupt_eq_write (k : IrqSource) :
    s.requestInterrupt k = s.write ifAddr (s.ifv ||| 1#8 <<< k.bit) := by
  simp [State.requestInterrupt, State.write, s.isKey1_of_ne (show ifAddr ≠ key1Addr by decide)]

theorem State.requestInterrupt_read_if (hm : Memory.wf s.mem = true) (k : IrqSource) :
    (s.requestInterrupt k).read ifAddr = s.read ifAddr ||| 1#8 <<< k.bit := by
  rw [s.requestInterrupt_eq_write, s.write_read_same hm _ (s.isKey1_of_ne (by decide)), State.ifv]

theorem State.requestInterrupt_read_other (k : IrqSource) {x : Word} (h : x ≠ ifAddr) :
    (s.requestInterrupt k).read x = s.read x := by
  rw [s.requestInterrupt_eq_write, s.write_read_other _ h]

/-- A move changes the bytes behind the bus and no other field (R77). -/
theorem EnvMove.apply_frame (m : EnvMove) : { m.apply s with mem := s.mem } = s := by
  cases m with
  | requestInterrupt k => rfl
  | setByte addr v => rfl

/-! ## The trace callback -/

/-- No source has priority exactly when none of the five bits is set (R404, R407). -/
theorem highestPriority_eq_none_iff (pend : Byte) : highestPriority pend = none ↔ pend &&& allMask = 0#8 := by
  revert pend
  decide

/-- The pending set holds the five sources alone (R404). -/
theorem State.pend_and_allMask : s.pend &&& allMask = s.pend := by
  rw [State.pend, BitVec.and_assoc, BitVec.and_self]

theorem State.highestPriority_pend_eq_none_iff : highestPriority s.pend = none ↔ s.pend = 0#8 := by
  rw [highestPriority_eq_none_iff, s.pend_and_allMask]

/-- A boundary fetches when it neither idles nor dispatches (R426). -/
theorem State.boundary_eq_fetch (hh : s.haltActive = true → s.pend ≠ 0#8) (hi : s.ime = true → s.pend = 0#8) :
    s.boundary = .fetch := by
  have hidle : ¬ (s.haltActive && s.pend == 0#8) = true := by simpa using hh
  rw [State.boundary, if_neg hidle]
  split
  next hime => rw [s.highestPriority_pend_eq_none_iff.mpr (hi hime)]
  next => rfl

/-- A halted boundary with nothing pending does not fetch, nor does one that takes an interrupt (R426). -/
theorem State.boundary_ne_fetch (h : s.haltActive = true ∧ s.pend = 0#8 ∨ s.ime = true ∧ s.pend ≠ 0#8) :
    s.boundary ≠ .fetch := by
  obtain ⟨hh, hp⟩ | ⟨hi, hp⟩ := h
  · simp [State.boundary, hh, hp]
  · obtain ⟨k, hk⟩ := Option.ne_none_iff_exists'.mp (mt s.highestPriority_pend_eq_none_iff.mp hp)
    simp [State.boundary, hi, hp, hk]

/-- The callback is called at an opcode fetch (R186, decision D9). -/
theorem State.traceEvent_of_fetch (hp : s.pipe = none) (hb : s.boundary = .fetch) : s.traceEvent = some s.traceText := by
  simp only [State.traceEvent, hp, hb]

/-- The callback is not called in a later row, an idle cycle or a dispatch (R186, decision D9). -/
theorem State.traceEvent_of_not_fetch (h : s.pipe ≠ none ∨ s.boundary ≠ .fetch) : s.traceEvent = none := by
  unfold State.traceEvent
  split
  next => rfl
  next hp =>
    split
    next => rfl
    next => rfl
    next hb => exact (h.elim (· hp) (· hb)).elim

/-- A present callback is called once when the cycle has a text for it. -/
theorem State.traced_of_event {α : Type} (host : α) (call : String → α → α) {text : String}
    (h : s.traceEvent = some text) : s.traced host (some call) = call text host := by
  simp only [State.traced, h]

/-- A present callback is not called when the cycle has no text for it. -/
theorem State.traced_of_no_event {α : Type} (host : α) (call : String → α → α) (h : s.traceEvent = none) :
    s.traced host (some call) = host := by
  simp only [State.traced, h]

theorem State.traceText_of_unprefixed (h : s.read s.pc ≠ 0xCB#8) : s.traceText = mnemonic s.fetchInstr :=
  if_neg fun hc => h hc.1

theorem mnemonic_prefixCb : mnemonic .prefixCb = "PREFIX CB" := rfl

/-- Whatever the free value, the text is the full mnemonic or the prefix's (log entry 15). -/
theorem State.traceText_mem : s.traceText ∈ [mnemonic s.fetchInstr, "PREFIX CB"] := by
  unfold State.traceText
  split
  next =>
    rw [mnemonic_prefixCb]
    exact List.mem_cons_of_mem _ List.mem_cons_self
  next => exact List.mem_cons_self

end Sys2Proof.Machine

open Sys2Proof Sys2Proof.Machine

/-- Settles O24, by induction along the first memory's cells. -/
theorem memoriesThatReadAlikeAreEqual : Obligations.MemoriesThatReadAlikeAreEqual :=
  fun _ _ hm hm' h => eq_of_memRead_eq hm hm' fun a ha => h (BitVec.ofNatLT a ha)

/-- Settles O27: a request is a store at `IF`, and the trace callback has an event exactly at a boundary that fetches. -/
theorem environmentMovesAndTraceLeaveTheCore : Obligations.EnvironmentMovesAndTraceLeaveTheCore := by
  refine ⟨fun s k m => ⟨m.apply_frame s, fun hm => ⟨fun i => ?_, fun x => s.requestInterrupt_read_other k⟩⟩,
    fun α s t host call ht => ⟨tracedCycle_eq_next host none ht, fun hp hh hi => ?_, fun h => ?_⟩⟩
  · rw [← k.getLsbD_mask i, ← BitVec.getLsbD_or]
    exact congrArg (·.getLsbD i) (s.requestInterrupt_read_if hm k)
  · have hevent := s.traceEvent_of_fetch hp (s.boundary_eq_fetch hh hi)
    refine ⟨s.traceText, ?_, s.traceText_of_unprefixed, fun _ => s.traceText_mem⟩
    rw [tracedCycle_eq_next host (some call) ht, s.traced_of_event host call hevent]
  · have hevent := s.traceEvent_of_not_fetch (h.imp_right s.boundary_ne_fetch)
    rw [tracedCycle_eq_next host (some call) ht, s.traced_of_no_event host call hevent]
end

section
/-! SUPPORT. Decoder and encoder against each other: the encoding of what the decoder reads, family by family (R99 to R103), and
the two round trips. -/

namespace Sys2Proof.Machine

open Sys2Proof

/-! ## An opcode byte by its fields -/

/-- The byte whose fields are `x`, `y` and `z` (R91). -/
def opcodeOf (x y z : Nat) : Byte := BitVec.ofNat 8 (64 * x + 8 * y + z)

theorem opcodeOf_fields (op : Byte) : opcodeOf (fieldX op) (fieldY op) (fieldZ op) = op := by
  apply BitVec.eq_of_toNat_eq
  simp only [opcodeOf, fieldX, fieldY, fieldZ, BitVec.toNat_ofNat]
  omega

theorem fieldX_eq_three {op : Byte} (h0 : fieldX op ≠ 0) (h1 : fieldX op ≠ 1) (h2 : fieldX op ≠ 2) : fieldX op = 3 := by
  simp only [fieldX] at *
  omega
theorem fieldY_lt (op : Byte) : fieldY op < 8 := Nat.mod_lt _ (by decide)
theorem fieldZ_lt (op : Byte) : fieldZ op < 8 := Nat.mod_lt _ (by decide)

theorem opcodeLength_pos (op : Byte) : 1 ≤ opcodeLength op := by
  unfold opcodeLength
  split_ifs <;> decide

theorem opcodeLength_le (op : Byte) : opcodeLength op ≤ 3 := by
  unfold opcodeLength
  split_ifs <;> decide

/-! ## The rows of the two tables

The two bytes after the opcode are the halves of a word `w`, low byte first, so that every row's immediate is `w` or its low
byte. -/

/-- Number of bytes that the base table's row of `op` encodes: R105's, but for `0xCB`, whose row is the one byte. -/
def baseLength (op : Byte) : Nat := if op = 0xCB#8 then 1 else opcodeLength op

/-- The bytes that the base table's row of `op` takes of `op` and the halves of `w`. -/
def baseBytes (op : Byte) (w : Word) : List Byte := [op, loByte w, hiByte w].take (baseLength op)

section
variable {y z : Nat} (hy : y < 8) (hz : z < 8) (w : Word)
include hy hz

theorem encode_quadrant0 : encode (quadrant0 y z (loByte w) w) = baseBytes (opcodeOf 0 y z) w := by
  interval_cases z <;> interval_cases y <;> rfl

theorem encode_quadrant1 : encode (.ldLocLoc (r8 y) (r8 z)) = baseBytes (opcodeOf 1 y z) w := by
  interval_cases y <;> interval_cases z <;> rfl

theorem encode_quadrant2 : encode (.aluLoc (alu y) (r8 z)) = baseBytes (opcodeOf 2 y z) w := by
  interval_cases y <;> interval_cases z <;> rfl

theorem encode_quadrant3 : encode (quadrant3 y z (loByte w) w) = baseBytes (opcodeOf 3 y z) w := by
  interval_cases z <;> interval_cases y <;> rfl

theorem encode_rotLoc : encode (.rotLoc (rot y) (r8 z)) = [0xCB#8, opcodeOf 0 y z] := by
  interval_cases y <;> interval_cases z <;> rfl

theorem encode_bitLoc : encode (.bitLoc (index3 y) (r8 z)) = [0xCB#8, opcodeOf 1 y z] := by
  interval_cases y <;> interval_cases z <;> rfl

theorem encode_resLoc : encode (.resLoc (index3 y) (r8 z)) = [0xCB#8, opcodeOf 2 y z] := by
  interval_cases y <;> interval_cases z <;> rfl

theorem encode_setLoc : encode (.setLoc (index3 y) (r8 z)) = [0xCB#8, opcodeOf 3 y z] := by
  interval_cases y <;> interval_cases z <;> rfl

end

/-- Every row of the base table, that of `0xCB` among them, encodes to its opcode and immediate. -/
theorem encode_baseInstr (op : Byte) (w : Word) : encode (baseInstr op (loByte w) (hiByte w)) = baseBytes op w := by
  have hy := fieldY_lt op
  have hz := fieldZ_lt op
  have hop := opcodeOf_fields op
  unfold baseInstr
  rw [joinBytes_halves]
  split
  next hx => rw [encode_quadrant0 hy hz, ← hx, hop]
  next hx => rw [encode_quadrant1 hy hz w, ← hx, hop]
  next hx => rw [encode_quadrant2 hy hz w, ← hx, hop]
  next h0 h1 h2 => rw [encode_quadrant3 hy hz, ← fieldX_eq_three h0 h1 h2, hop]

/-- Every row of the CB table encodes to `0xCB` and its second byte. -/
theorem encode_cbInstr (op2 : Byte) : encode (cbInstr op2) = [0xCB#8, op2] := by
  have hy := fieldY_lt op2
  have hz := fieldZ_lt op2
  have hop := opcodeOf_fields op2
  unfold cbInstr
  split
  next hx => rw [encode_rotLoc hy hz, ← hx, hop]
  next hx => rw [encode_bitLoc hy hz, ← hx, hop]
  next hx => rw [encode_resLoc hy hz, ← hx, hop]
  next h0 h1 h2 => rw [encode_setLoc hy hz, ← fieldX_eq_three h0 h1 h2, hop]

/-! ## The decoder -/

theorem decode3_prefix (b1 b2 : Byte) : decode3 0xCB#8 b1 b2 = cbInstr b1 := rfl

/-- Only `0xCB` has the row `prefixCb`: a row's encoding begins with its opcode. -/
theorem baseInstr_ne_prefixCb {op : Byte} (hop : op ≠ 0xCB#8) (w : Word) :
    baseInstr op (loByte w) (hiByte w) ≠ .prefixCb := by
  intro h
  have henc := encode_baseInstr op w
  rw [h, baseBytes, baseLength, if_neg hop, List.take_cons (opcodeLength_pos op)] at henc
  exact hop (List.cons.inj henc).1.symm

theorem decode3_of_ne_prefix {op : Byte} (hop : op ≠ 0xCB#8) (w : Word) :
    decode3 op (loByte w) (hiByte w) = baseInstr op (loByte w) (hiByte w) := by
  unfold decode3
  split
  next h => exact absurd h (baseInstr_ne_prefixCb hop w)
  next => rfl

/-- The decoder never gives `prefixCb` (R376): a row of the CB table has two bytes. -/
theorem decode3_ne_prefixCb (op b1 b2 : Byte) : decode3 op b1 b2 ≠ .prefixCb := by
  by_cases hop : op = 0xCB#8
  · subst hop
    intro h
    have henc := encode_cbInstr b1
    rw [← decode3_prefix b1 b2, h] at henc
    exact absurd (congrArg List.length henc) (show ¬ 1 = 2 by decide)
  · have h := baseInstr_ne_prefixCb hop (joinBytes b2 b1)
    rw [← decode3_of_ne_prefix hop] at h
    rwa [loByte_joinBytes, hiByte_joinBytes] at h

/-- The instruction read from three bytes encodes to as many of them as R105 gives the first. -/
theorem encode_decode3 (op b1 b2 : Byte) : encode (decode3 op b1 b2) = [op, b1, b2].take (opcodeLength op) := by
  by_cases hop : op = 0xCB#8
  · subst hop
    exact encode_cbInstr b1
  · have h := encode_baseInstr op (joinBytes b2 b1)
    rw [← decode3_of_ne_prefix hop, baseBytes, baseLength, if_neg hop] at h
    rwa [loByte_joinBytes, hiByte_joinBytes] at h

theorem length_encode_decode3 (op b1 b2 : Byte) : (encode (decode3 op b1 b2)).length = opcodeLength op := by
  rw [encode_decode3, List.length_take]
  exact Nat.min_eq_left (opcodeLength_le op)

theorem decode_of_length_le {op : Byte} {rest : List Byte} (h : opcodeLength op ≤ rest.length + 1) :
    decode (op :: rest) =
      .ok (decode3 op (rest.getD 0 0) (rest.getD 1 0), (op :: rest).drop (opcodeLength op)) := by
  rw [List.drop_cons (opcodeLength_pos op)]
  exact if_neg (Nat.not_lt.mpr h)

theorem decode_of_lt_length {op : Byte} {rest : List Byte} (h : rest.length + 1 < opcodeLength op) :
    decode (op :: rest) = .error (.truncated op (opcodeLength op)) :=
  if_pos h

/-- Inversion of `decode`: a list is read only when it holds all the bytes of its first instruction. -/
theorem eq_cons_of_decode {bytes rest : List Byte} {i : Instr} (h : decode bytes = .ok (i, rest)) :
    ∃ op tail, bytes = op :: tail ∧ opcodeLength op ≤ tail.length + 1 ∧
      i = decode3 op (tail.getD 0 0) (tail.getD 1 0) ∧ rest = bytes.drop (opcodeLength op) := by
  cases bytes with
  | nil => cases h
  | cons op tail =>
    by_cases hl : opcodeLength op ≤ tail.length + 1
    · rw [decode_of_length_le hl] at h
      cases h
      exact ⟨op, tail, rfl, hl, rfl, rfl⟩
    · rw [decode_of_lt_length (Nat.lt_of_not_le hl)] at h
      cases h

/-- The first `n` of the three bytes given to `decode3` are the first `n` of the list, when it holds that many. -/
theorem take_padded_eq_take {n : Nat} (op : Byte) (tail : List Byte) (hn : n ≤ 3) (hl : n ≤ tail.length + 1) :
    [op, tail.getD 0 0, tail.getD 1 0].take n = (op :: tail).take n := by
  match n, tail with
  | 0, _ => rfl
  | 1, _ => rfl
  | 2, _ :: _ => rfl
  | 3, _ :: _ :: _ => rfl

/-- A complete instruction is the only one with its encoding. -/
theorem eq_of_encode_eq {i j : Instr} (hi : i ≠ .prefixCb) (hj : j ≠ .prefixCb) (h : encode i = encode j) : i = j := by
  obtain ⟨op, b1, b2, rest, hbytes, rfl⟩ := decode3_encode i hi
  obtain ⟨op', b1', b2', rest', hbytes', rfl⟩ := decode3_encode j hj
  rw [h, hbytes'] at hbytes
  cases hbytes
  rfl

/-- The encoding of a complete instruction begins with a byte whose length by R105 is the encoding's. -/
theorem encode_eq_cons {i : Instr} (hi : i ≠ .prefixCb) :
    ∃ op tail, encode i = op :: tail ∧ (encode i).length = opcodeLength op := by
  obtain ⟨op, b1, b2, -, -, rfl⟩ := decode3_encode i hi
  exact ⟨op, _, (encode_decode3 op b1 b2).trans (List.take_cons (opcodeLength_pos op)), length_encode_decode3 op b1 b2⟩

end Sys2Proof.Machine

open Sys2Proof Sys2Proof.Machine

/-- Settles O3: a list long enough is read through `decode3`, whose encoding has the length of R105. -/
theorem everyOpcodeByteDecodes : Obligations.EveryOpcodeByteDecodes := fun op _ =>
  ⟨opcodeLength_pos op, opcodeLength_le op,
    fun h => ⟨_, decode_of_length_le h, length_encode_decode3 op _ _⟩, decode_of_lt_length⟩

/-- Settles O2: the encoding is the bytes taken from the list, the rest is what is dropped. -/
theorem encodeOfDecodeIsTheBytes : Obligations.EncodeOfDecodeIsTheBytes := by
  intro bytes rest i h
  obtain ⟨op, tail, rfl, hl, rfl, rfl⟩ := eq_cons_of_decode h
  refine ⟨decide_eq_true (decode3_ne_prefixCb op _ _), ?_⟩
  rw [encode_decode3, take_padded_eq_take op tail (opcodeLength_le op) hl, List.take_append_drop]

/-- Settles O1, from O2 and O3: the decoder reads some instruction from the encoding, and that instruction's encoding is the
same bytes. -/
theorem decodeOfEncodeIsTheInstruction : Obligations.DecodeOfEncodeIsTheInstruction := by
  intro i rest hwf
  have hi : i ≠ .prefixCb := of_decide_eq_true hwf
  obtain ⟨op, tail, hcons, hlen⟩ := encode_eq_cons hi
  obtain ⟨-, -, hreads, -⟩ := everyOpcodeByteDecodes op (tail ++ rest)
  have hfits : opcodeLength op ≤ (tail ++ rest).length + 1 := by
    rw [← hlen, hcons, List.length_cons, List.length_append]
    omega
  obtain ⟨j, hdecode, hjlen⟩ := hreads hfits
  rw [← List.cons_append, ← hcons] at hdecode
  obtain ⟨hjwf, hbytes⟩ := encodeOfDecodeIsTheBytes _ _ _ hdecode
  obtain ⟨hencode, hrest⟩ := List.append_inj hbytes (hjlen.trans hlen.symm)
  rw [hdecode, hrest, eq_of_encode_eq (of_decide_eq_true hjwf) hi hencode]
end

section
/-! SUPPORT. The ALU functions in the terms of the rules: results and flags of the additions and subtractions as numbers
(R122 to R125), the rotates and the bit masks bit by bit (R131 to R141), and what one write
after an instruction's bytes leaves of the state. -/

namespace Sys2Proof.Machine

open Sys2Proof

/-! ## Addition and subtraction as numbers -/

/-- A sum is odd when exactly one of its terms is. -/
theorem xor_decide_odd (m n : Nat) : (decide (m % 2 = 1) ^^ decide (n % 2 = 1)) = decide ((m + n) % 2 = 1) := by
  rcases Nat.mod_two_eq_zero_or_one m with hm | hm <;> rcases Nat.mod_two_eq_zero_or_one n with hn | hn <;>
    simp [Nat.add_mod, hm, hn]

/-- The half carry is the parity of bit 4 in the result and the two operands. -/
theorem halfCarry_eq_parity (res a b : Byte) :
    halfCarry res a b = decide ((res.toNat / 16 + a.toNat / 16 + b.toNat / 16) % 2 = 1) := by
  have hbit : ∀ v : Byte, v.getLsbD 4 = decide (v.toNat / 16 % 2 = 1) := fun v => Nat.testBit_eq_decide_div_mod_eq
  have hmask : ∀ v : Byte, (v &&& 0x10#8 != 0#8) = v.getLsbD 4 := by decide
  rw [halfCarry, hmask, BitVec.getLsbD_xor, BitVec.getLsbD_xor, hbit, hbit, hbit, xor_decide_odd, xor_decide_odd]

theorem halfCarry_eq_decide (res a b : Byte) : halfCarry res a b = decide ((res ^^^ a ^^^ b) &&& 0x10#8 ≠ 0#8) := by
  rw [halfCarry, bne, decide_not, beq_eq_decide]

/-- Whether a byte is zero, from its value. -/
theorem beq_zero_of_toNat {v : Byte} {n : Nat} (h : v.toNat = n) : (v == 0#8) = decide (n = 0) := by
  subst h
  rw [Bool.eq_iff_iff, beq_iff_eq, decide_eq_true_iff, BitVec.toNat_eq]
  rfl

section
variable (a b : Byte) (cin : Bool)

theorem toNat_adc8 : (adc8 a b cin).1.toNat = (a.toNat + b.toNat + cin.toNat) % 256 := BitVec.toNat_ofNat ..

theorem toNat_sbc8 : ((sbc8 a b cin).1.toNat : Int) = ((a.toNat : Int) - b.toNat - cin.toNat) % 256 := by
  simp only [sbc8, BitVec.toNat_ofInt]
  omega

theorem adc8_flags :
    (adc8 a b cin).2 = ⟨some (decide ((a.toNat + b.toNat + cin.toNat) % 256 = 0)), some false,
      some (decide (a.toNat % 16 + b.toNat % 16 + cin.toNat > 15)), some (decide (a.toNat + b.toNat + cin.toNat > 255))⟩ := by
  have hz := beq_zero_of_toNat (toNat_adc8 a b cin)
  have hh : halfCarry (adc8 a b cin).1 a b = decide (a.toNat % 16 + b.toNat % 16 + cin.toNat > 15) := by
    have hc := cin.toNat_le
    rw [halfCarry_eq_parity, toNat_adc8, decide_eq_decide]
    omega
  rw [← hz, ← hh]
  rfl

theorem sbc8_flags :
    (sbc8 a b cin).2 = ⟨some (decide (((a.toNat : Int) - b.toNat - cin.toNat) % 256 = 0)), some true,
      some (decide (a.toNat % 16 < b.toNat % 16 + cin.toNat)), some (decide (a.toNat < b.toNat + cin.toNat))⟩ := by
  have hv := toNat_sbc8 a b cin
  have hz : ((sbc8 a b cin).1 == 0#8) = decide (((a.toNat : Int) - b.toNat - cin.toNat) % 256 = 0) := by
    rw [beq_zero_of_toNat rfl, decide_eq_decide]
    omega
  have hh : halfCarry (sbc8 a b cin).1 a b = decide (a.toNat % 16 < b.toNat % 16 + cin.toNat) := by
    have hc := cin.toNat_le
    rw [halfCarry_eq_parity, decide_eq_decide]
    omega
  have hneg : decide ((a.toNat : Int) - b.toNat - cin.toNat < 0) = decide (a.toNat < b.toNat + cin.toNat) := by
    rw [decide_eq_decide]
    omega
  rw [← hz, ← hh, ← hneg]
  rfl

theorem adc8_half : (adc8 a b cin).2.h = some (decide (((adc8 a b cin).1 ^^^ a ^^^ b) &&& 0x10#8 ≠ 0#8)) :=
  congrArg some (halfCarry_eq_decide ..)

theorem sbc8_half : (sbc8 a b cin).2.h = some (decide (((sbc8 a b cin).1 ^^^ a ^^^ b) &&& 0x10#8 ≠ 0#8)) :=
  congrArg some (halfCarry_eq_decide ..)

theorem adc8_false : adc8 a b false = add8 a b := rfl

theorem sbc8_false : sbc8 a b false = sub8 a b := by simp [sbc8, sub8]

theorem add8_fst : (add8 a b).1 = a + b := by simp [add8, BitVec.ofNat_add]

theorem sub8_fst : (sub8 a b).1 = a - b := by
  apply BitVec.eq_of_toNat_eq
  have h := toNat_sbc8 a b false
  rw [sbc8_false, Bool.toNat_false] at h
  rw [BitVec.toNat_sub]
  omega

/-- Adding the complement carries exactly when the subtraction does not borrow, but for the operand 0 (R147). -/
theorem sub8_carry_eq_not_add8_carry (hb : b ≠ 0#8) : (sub8 a b).2.c = (add8 a (0#8 - b)).2.c.map (!·) := by
  have hpos : b.toNat ≠ 0 := fun h => hb (BitVec.eq_of_toNat_eq h)
  simp only [sub8, add8, Option.map_some, Option.some.injEq, ← decide_not, decide_eq_decide, BitVec.toNat_sub,
    BitVec.toNat_ofNat]
  omega

end

/-! ## Rotates and bit masks, bit by bit -/

theorem getElem_bit01 (c : Bool) (i : Nat) (hi : i < 8) : (bit01 c)[i] = (decide (i = 0) && c) := by
  cases c <;> simp [bit01, BitVec.getElem_one]

/-- The bits of a rotate or shift (R131 to R138) are those that `rotBit` names. -/
theorem rotShift_isRotated (o : RotOp) (v : Byte) (cin : Bool) : IsRotated o v cin (rotShift o v cin).1 := by
  intro j
  cases o <;> fin_cases j <;> simp [rotShift, rotBit, rlc8, rrc8, rl8, rr8, sla8, sra8, swap8, srl8, getElem_bit01]

/-- The mask of a bit number. -/
theorem getLsbD_mask (n j : Fin 8) : (1#8 <<< n.val).getLsbD j = decide (j = n) := by revert n j; decide

theorem getLsbD_setBit (n j : Fin 8) (v : Byte) : (setBit n v).getLsbD j = (decide (j = n) || v.getLsbD j) := by
  rw [setBit, BitVec.getLsbD_or, getLsbD_mask, Bool.or_comm]

theorem getLsbD_resBit (n j : Fin 8) (v : Byte) : (resBit n v).getLsbD j = (decide (j ≠ n) && v.getLsbD j) := by
  rw [resBit, BitVec.getLsbD_and, BitVec.getLsbD_not, getLsbD_mask, decide_eq_true j.isLt, Bool.true_and, Bool.and_comm,
    decide_not]

/-- Two bytes with the same eight bits are equal. -/
theorem byte_ext {v w : Byte} (h : ∀ j : Fin 8, v.getLsbD j = w.getLsbD j) : v = w :=
  BitVec.eq_of_getLsbD_eq fun i hi => h ⟨i, hi⟩

theorem resBit_setBit (n : Fin 8) (v : Byte) : resBit n (setBit n v) = resBit n v := by
  apply byte_ext
  intro j
  rw [getLsbD_resBit, getLsbD_setBit, getLsbD_resBit]
  by_cases h : j = n <;> simp [h]

/-- Bit `j` comes from bit `j + 1` of the rotate to the left, which came from bit `j`. -/
theorem rrc8_rlc8 (v : Byte) : (rrc8 (rlc8 v).1).1 = v := by
  apply byte_ext
  intro j
  calc (rrc8 (rlc8 v).1).1.getLsbD j
    _ = (rlc8 v).1.getLsbD (j + 1 : Fin 8) := rotShift_isRotated .rrc (rlc8 v).1 false j
    _ = v.getLsbD (((j + 1 : Fin 8).val + 7) % 8) := rotShift_isRotated .rlc v false (j + 1)
    _ = v.getLsbD j := congrArg v.getLsbD (by omega)

/-- Bit `j` comes from bit `j + 4` of the first swap, which came from bit `j`. -/
theorem swap8_swap8 (v : Byte) : (swap8 (swap8 v).1).1 = v := by
  apply byte_ext
  intro j
  calc (swap8 (swap8 v).1).1.getLsbD j
    _ = (swap8 v).1.getLsbD (j + 4 : Fin 8) := rotShift_isRotated .swap (swap8 v).1 false j
    _ = v.getLsbD (((j + 4 : Fin 8).val + 4) % 8) := rotShift_isRotated .swap v false (j + 4)
    _ = v.getLsbD j := congrArg v.getLsbD (by omega)

theorem cpl8_cpl8 (v : Byte) : (cpl8 (cpl8 v).1).1 = v := by
  simp only [cpl8, BitVec.xor_assoc, BitVec.xor_self, BitVec.xor_zero]

/-! ## `SET` and `RES`: one write after their two bytes -/

section
variable (s : State) (n : Fin 8)

theorem exec_setReg (r : Reg8) : exec (.setReg n r) s = .next ((s.past 2).setReg r (s.reg r ||| 1#8 <<< n.val)) := by
  simpa [Instr.setLoc, setBitLoc, State.raiseBit, State.setLoc, State.loc, setBit] using exec_setLoc s n (.reg r)

theorem exec_resReg (r : Reg8) : exec (.resReg n r) s = .next ((s.past 2).setReg r (s.reg r &&& ~~~(1#8 <<< n.val))) := by
  simpa [Instr.resLoc, resetBitLoc, State.clearBit, State.setLoc, State.loc, resBit] using exec_resLoc s n (.reg r)

theorem exec_setMem : exec (.setMem n) s = .next ((s.past 2).write s.hl (s.read s.hl ||| 1#8 <<< n.val)) := by
  simpa [Instr.setLoc, setBitLoc, State.raiseBit, State.setLoc, State.loc, setBit] using exec_setLoc s n .memHl

theorem exec_resMem : exec (.resMem n) s = .next ((s.past 2).write s.hl (s.read s.hl &&& ~~~(1#8 <<< n.val))) := by
  simpa [Instr.resLoc, resetBitLoc, State.clearBit, State.setLoc, State.loc, resBit] using exec_resLoc s n .memHl

end

/-! ## One write after an instruction's bytes -/

section
variable (s : State) (n : Nat)

theorem past_pc_eq : (s.past (n + 1)).pc = pcPast (n + 1) s := by
  induction n with
  | zero => exact past_one_pc_eq s
  | succ n ih =>
    calc (s.past (n + 1)).pc + 1#16
      _ = pcPast (n + 1) s + 1#16 := by rw [ih]
      _ = pcPast (n + 2) s := by
        simp only [pcPast, Nat.add_sub_cancel, Nat.add_succ_sub_one, BitVec.ofNat_add, ← BitVec.add_assoc]
        split
        · rfl
        · exact word_add_add _

theorem past_setReg (r : Reg8) (v : Byte) :
    ((s.past (n + 1)).setReg r v).reg r = v ∧ ((s.past (n + 1)).setReg r v).f = s.f ∧
      ((s.past (n + 1)).setReg r v).pc = pcPast (n + 1) s ∧ ((s.past (n + 1)).setReg r v).sp = s.sp ∧
      SameIme s ((s.past (n + 1)).setReg r v) ∧ Frame [r] [] s ((s.past (n + 1)).setReg r v) := by
  refine ⟨by simp, by simp, ?_, by simp, ⟨by simp, by simp⟩, ?_⟩
  · rw [State.setReg_pc, past_pc_eq]
  · exact ((Frame.past s n).mono (List.nil_subset _) (List.Subset.refl _)).setReg r v (List.mem_singleton.mpr rfl)

theorem past_write (hm : Memory.wf s.mem = true) (x : Word) (v : Byte) :
    ((s.past (n + 1)).write x v).read x = storedByte s x v ∧ ((s.past (n + 1)).write x v).f = s.f ∧
      ((s.past (n + 1)).write x v).pc = pcPast (n + 1) s ∧ ((s.past (n + 1)).write x v).sp = s.sp ∧
      SameIme s ((s.past (n + 1)).write x v) ∧ Frame [] [x] s ((s.past (n + 1)).write x v) := by
  refine ⟨?_, by simp, ?_, by simp, ⟨by simp, by simp⟩, ?_⟩
  · exact State.write_read_stored s _ (State.past_key1 ..) (by rwa [State.past_mem]) x v
  · rw [State.write_pc, past_pc_eq]
  · exact ((Frame.past s n).mono (List.Subset.refl _) (List.nil_subset _)).write x v (List.mem_singleton.mpr rfl)

end

end Sys2Proof.Machine

open Sys2Proof Sys2Proof.Machine

/-- Settles O28: `add8` and `sub8` are `adc8` and `sbc8` without a carry in, whose H is read off bit 4. -/
theorem eightBitAluLaws : Obligations.EightBitAluLaws := by
  intro a b cin
  refine ⟨?_, ⟨toNat_adc8 a b cin, adc8_flags a b cin, adc8_half a b cin⟩, ?_,
    ⟨toNat_sbc8 a b cin, sbc8_flags a b cin, sbc8_half a b cin⟩, ?_⟩
  · exact ⟨toNat_adc8 a b false, adc8_flags a b false, adc8_half a b false⟩
  · simpa only [sbc8_false, Bool.toNat_false, Nat.cast_zero, Int.sub_zero, Nat.add_zero] using
      And.intro (toNat_sbc8 a b false) (And.intro (sbc8_flags a b false) (sbc8_half a b false))
  · simp [and8, or8, xor8, beq_eq_decide]

/-- Settles O29: sums and differences as words, rotates and masks bit by bit. -/
theorem aluAlgebra : Obligations.AluAlgebra := by
  intro a b cin n t f
  refine ⟨?_, ?_, sub8_carry_eq_not_add8_carry a b, adc8_false a b, sbc8_false a b, rfl, rrc8_rlc8 a, swap8_swap8 a,
    cpl8_cpl8 a, resBit_setBit n a, t.applyTo_low f⟩
  · rw [add8_fst, add8_fst, BitVec.add_comm]
  · rw [sub8_fst, add8_fst, BitVec.zero_sub, BitVec.sub_eq_add_neg]

/-- Settles O51: `SET` and `RES` make one write, of a register or at `HL`, after their two bytes. -/
theorem setAndResAreBitMasks : Obligations.SetAndResAreBitMasks := by
  intro s n r
  exact ⟨⟨_, exec_setReg s n r, past_setReg s 1 r _⟩, ⟨_, exec_resReg s n r, past_setReg s 1 r _⟩, fun hm =>
    ⟨⟨_, exec_setMem s n, past_write s 1 hm s.hl _⟩, ⟨_, exec_resMem s n, past_write s 1 hm s.hl _⟩⟩⟩

/-- Settles O8: the masks bit by bit; neither instruction writes `F`. -/
theorem setAndResFunctionsAreMasksWithNoFlag : Obligations.SetAndResFunctionsAreMasksWithNoFlag := by
  intro n v x s
  refine ⟨rfl, rfl, fun j => ⟨getLsbD_setBit n j v, getLsbD_resBit n j v⟩,
    _, _, exec_setLoc s n x, ?_, exec_resLoc s n x, ?_⟩
  · simp [setBitLoc, State.raiseBit]
  · simp [resetBitLoc, State.clearBit]
end

section
/-! SUPPORT. A pipeline's cycles up to its boundary, and what the rows of a pipeline do not look at. -/

namespace Sys2Proof.Machine

open Sys2Proof

/-! ## From a pipeline's cycles to its boundary -/

/-- `n` machine cycles from `s` reach the boundary `t`, and none of them but the last reaches one. -/
inductive EndsAfter : Nat → State → State → Prop where
  | last {s t : State} (h : cycle s = .next t) (ht : t.pipe = none) : EndsAfter 1 s t
  | more {n : Nat} {s u t : State} (h : cycle s = .next u) (hu : u.pipe ≠ none) (ht : EndsAfter n u t) :
      EndsAfter (n + 1) s t

theorem cycles_succ_of_cycle {s u : State} (n : Nat) (h : cycle s = .next u) : cycles (n + 1) s = cycles n u := by
  simp only [cycles, h]

theorem EndsAfter.pos {n : Nat} {s t : State} (h : EndsAfter n s t) : 1 ≤ n := by
  cases h with
  | last => exact le_rfl
  | more => exact Nat.le_add_left 1 _

theorem EndsAfter.pipe_eq {n : Nat} {s t : State} (h : EndsAfter n s t) : t.pipe = none := by
  induction h with
  | last _ ht => exact ht
  | more _ _ _ ih => exact ih

theorem EndsAfter.cycles_eq {n : Nat} {s t : State} (h : EndsAfter n s t) : cycles n s = .next t := by
  induction h with
  | last h _ => exact cycles_succ_of_cycle 0 h
  | more h _ _ ih => rw [cycles_succ_of_cycle _ h, ih]

theorem EndsAfter.in_flight {n m : Nat} {s t : State} (h : EndsAfter n s t) (hm : 0 < m) (hmn : m < n) :
    ∃ u, cycles m s = .next u ∧ u.pipe ≠ none := by
  induction h generalizing m with
  | last => omega
  | more h hu _ ih =>
    obtain ⟨m, rfl⟩ := Nat.exists_eq_add_one.mpr hm
    rw [cycles_succ_of_cycle m h]
    cases m with
    | zero => exact ⟨_, rfl, hu⟩
    | succ m => exact ih (Nat.succ_pos m) (by omega)

/-- From the middle of a pipeline, cycles enough reach the same boundary. -/
theorem EndsAfter.cyclesToBoundary_eq {n k : Nat} {s t : State} (h : EndsAfter n s t) (hs : s.pipe ≠ none)
    (hk : n ≤ k) : cyclesToBoundary k s = .next t := by
  induction h generalizing k with
  | last h ht =>
    obtain ⟨p, hp⟩ := Option.ne_none_iff_exists'.mp hs
    obtain ⟨k, rfl⟩ := Nat.exists_eq_add_one.mpr hk
    rw [cyclesToBoundary_succ k hp h, cyclesToBoundary_of_none k ht]
  | more h hu _ ih =>
    obtain ⟨p, hp⟩ := Option.ne_none_iff_exists'.mp hs
    obtain ⟨k, rfl⟩ := Nat.exists_eq_add_one.mpr (Nat.zero_lt_of_lt hk)
    rw [cyclesToBoundary_succ k hp h]
    exact ih hu (Nat.le_of_succ_le_succ hk)

/-- A good state with a pipeline in flight reaches its boundary within the rows that are left. -/
theorem exists_endsAfter {s : State} (h : s.Inv = true) (hp : s.pipe ≠ none) :
    ∃ n t, n ≤ s.rowsLeft ∧ EndsAfter n s t := by
  induction hr : s.rowsLeft using Nat.strong_induction_on generalizing s with
  | _ r ih =>
    subst hr
    obtain ⟨p, hp⟩ := Option.ne_none_iff_exists'.mp hp
    obtain ⟨u, hu, hinv, hlt⟩ := cycle_safe_of_pipe h hp
    by_cases hpu : u.pipe = none
    · exact ⟨1, u, Nat.one_le_of_lt hlt, .last hu hpu⟩
    · obtain ⟨n, t, hn, ht⟩ := ih _ hlt hinv hpu rfl
      exact ⟨n + 1, t, by omega, .more hu hpu ht⟩

/-! ## What a row's pieces answer -/

@[simp] theorem runMicros_nil (s : State) : runMicros [] s = some s := rfl

@[simp] theorem runMicros_cons (m : Micro) (ms : List Micro) (s : State) :
    runMicros (m :: ms) s = (m.run s).bind (runMicros ms) := by
  simp only [runMicros]
  cases m.run s <;> rfl

/-- The state after a row of a template: retired after the last row and where the condition
is not taken, else with the cursor at the next row (R172, R179, R181). -/
def Template.afterRow (T : Template) (n : Nat) (r : Row) (t : State) : State :=
  if T.rows.length = n + 1 || (r.cond.map fun k => !t.cond k) = some true then t.retire T.commits
  else { t with pipe := some ⟨T, n + 2⟩ }

theorem runRow_of_row {T : Template} {n : Nat} {r : Row} {s t : State} {op : BusOp} (hr : T.rows[n]? = some r)
    (hrun : r.run s = some (op, t)) : runRow ⟨T, n + 1⟩ s = .next (op, T.afterRow n r t) := by
  simp only [runRow, hr, hrun, Template.afterRow]
  split <;> rfl

/-- A row that answers a state was there and has run. -/
theorem exists_row_of_runRow {T : Template} {n : Nat} {s u : State} {op : BusOp}
    (h : runRow ⟨T, n + 1⟩ s = .next (op, u)) :
    ∃ r t, T.rows[n]? = some r ∧ r.run s = some (op, t) ∧ u = T.afterRow n r t := by
  cases hr : T.rows[n]? with
  | none => simp [runRow, hr] at h
  | some r =>
    cases hrun : r.run s with
    | none => simp [runRow, hr, hrun] at h
    | some x =>
      obtain ⟨op', t⟩ := x
      cases (runRow_of_row hr hrun).symm.trans h
      exact ⟨r, t, rfl, hrun, rfl⟩

/-! ## Rows look at neither `PIPE` nor, but for `HALT`, at `IME` -/

/-- An immediate step other than `HALT` looks at neither `PIPE` nor `IME`: with others, it answers the same but for these. -/
theorem Micro.run_control {m : Micro} {s t : State} (h : m.run s = some t) (hm : m ≠ .halt) (b : Bool) (q : Option Pipe) :
    ∃ c, (b = s.ime → c = t.ime) ∧ m.run { s with ime := b, pipe := q } = some { t with ime := c, pipe := q } := by
  refine ⟨((m.run { s with ime := b, pipe := q }).getD s).ime, ?_⟩
  rcases s with ⟨_, _, _, _, _, _, _, _, _, _, _, _, _, _, _, _ | ⟨x, _ | ⟨y, rest⟩⟩, _, _⟩ <;> cases m with
  | halt => contradiction
  | popReg r | popWord r | incPair r | decPair r => cases r <;> cases h <;> exact ⟨by rintro rfl; rfl, rfl⟩
  | _ => cases h <;> exact ⟨by rintro rfl; rfl, rfl⟩

theorem runMicros_control {ms : List Micro} {s t : State} (h : runMicros ms s = some t) (hm : .halt ∉ ms) (b : Bool)
    (q : Option Pipe) :
    ∃ c, (b = s.ime → c = t.ime) ∧
      runMicros ms { s with ime := b, pipe := q } = some { t with ime := c, pipe := q } := by
  induction ms generalizing s b with
  | nil =>
    cases h
    exact ⟨b, id, rfl⟩
  | cons m ms ih =>
    obtain ⟨hhead, htail⟩ := not_or.mp (mt List.mem_cons.mpr hm)
    rw [runMicros_cons, Option.bind_eq_some_iff] at h
    obtain ⟨u, hu, hrest⟩ := h
    obtain ⟨c, hc, hu'⟩ := Micro.run_control hu (Ne.symm hhead) b q
    obtain ⟨d, hd, hrest'⟩ := ih hrest htail c
    exact ⟨d, hd ∘ hc, by rw [runMicros_cons, hu', Option.bind_some, hrest']⟩

/-- A bus access looks at neither. -/
theorem BusStep.run_control {bus : BusStep} {s t : State} {op : BusOp} (h : bus.run s = some (op, t)) (b : Bool)
    (q : Option Pipe) :
    t.ime = s.ime ∧ bus.run { s with ime := b, pipe := q } = some (op, { t with ime := b, pipe := q }) := by
  rcases s with ⟨_, _, _, _, _, _, _, _, _, _, _, _, _, _, _, _ | ⟨x, _ | ⟨y, _ | ⟨z, rest⟩⟩⟩, _, _⟩ <;> cases bus with
  | readPair p | writePair p => cases p <;> cases h <;> exact ⟨rfl, rfl⟩
  | _ => cases h <;> exact ⟨rfl, rfl⟩

/-- A plain row looks at neither. -/
theorem Row.Plain.run_control {r : Row} (hr : r.Plain) {s t : State} {op : BusOp} (h : r.run s = some (op, t)) (b : Bool)
    (q : Option Pipe) :
    ∃ c, (b = s.ime → c = t.ime) ∧
      r.run { s with ime := b, pipe := q } = some (op, { t with ime := c, pipe := q }) := by
  obtain ⟨-, hpre, hpost⟩ := hr
  obtain ⟨s1, s2, h1, h2, h3⟩ := Row.run_eq_some_iff.mp h
  obtain ⟨c1, hc1, hrun1⟩ := runMicros_control h1 hpre b q
  obtain ⟨hime, hrun2⟩ := BusStep.run_control h2 c1 q
  obtain ⟨c, hc, hrun3⟩ := runMicros_control h3 hpost c1 q
  exact ⟨c, fun hb => hc ((hc1 hb).trans hime.symm), Row.run_eq_some_iff.mpr ⟨_, _, hrun1, hrun2, hrun3⟩⟩

/-- What follows a row sets `PIPE` and looks at no `IME`. -/
theorem Template.afterRow_control (T : Template) (n : Nat) (r : Row) (t : State) (b : Bool) (q : Option Pipe) :
    ∃ c, T.afterRow n r { t with ime := b, pipe := q } = { T.afterRow n r t with ime := c } := by
  have hcond : ∀ k, State.cond { t with ime := b, pipe := q } k = t.cond k := fun _ => rfl
  simp only [Template.afterRow, hcond]
  split
  · exact ⟨(State.retire { t with ime := b } T.commits).ime, rfl⟩
  · exact ⟨b, rfl⟩

/-- The rows after a template's first are plain. -/
theorem Template.plain_of_getElem? {T : Template} {n : Nat} {r : Row} (hr : T.rows[n + 1]? = some r) : r.Plain := by
  obtain ⟨-, -, htail⟩ := T.regular
  exact htail r (List.mem_of_getElem? (i := n) (by rwa [List.getElem?_tail]))

theorem cycleWithBus_of_pipe {s : State} {p : Pipe} (hp : s.pipe = some p) : cycleWithBus s = runRow (p.resolve s) s := by
  simp only [cycleWithBus, hp]

theorem Pipe.resolve_row (p : Pipe) (s : State) : (p.resolve s).row = p.row := by
  unfold Pipe.resolve
  split
  next h => rw [h]
  next => rfl

end Sys2Proof.Machine

open Sys2Proof Sys2Proof.Machine

/-- Settles O16: at a boundary by the boundary decision, in a pipeline because its rows take what the rows before
them left. -/
theorem cycleKeepsTheInvariant : Obligations.CycleKeepsTheInvariant :=
  fun _ h => cycle_safe h

/-- Settles O19: each cycle of a pipeline leaves fewer rows, and at most five are left. -/
theorem pipelineEndsWithinFiveCycles : Obligations.PipelineEndsWithinFiveCycles := by
  intro s h hp
  obtain ⟨n, t, hn, ht⟩ := exists_endsAfter h hp
  have hfive := State.rowsLeft_le_five h
  refine ⟨n, t, ht.pos, hn.trans hfive, ht.cycles_eq, ht.pipe_eq, ?_⟩
  obtain ⟨p, hsome⟩ := Option.ne_none_iff_exists'.mp hp
  simpa only [step, hsome] using ht.cyclesToBoundary_eq hp (show n ≤ 6 by omega)

/-- Settles O20: the row is not the template's first, so it is plain. -/
theorem midPipelineIgnoresIme : Obligations.MidPipelineIgnoresIme := by
  intro s t p op b hp hrow hcycle
  rw [cycleWithBus_of_pipe hp] at hcycle
  rw [cycleWithBus_of_pipe (s := { s with ime := b }) hp]
  change ∃ c, runRow (p.resolve s) { s with ime := b } = _
  rw [← p.resolve_row s] at hrow
  rcases hq : p.resolve s with ⟨T, row⟩
  rw [hq] at hcycle hrow
  obtain ⟨n, rfl⟩ : ∃ n, row = n + 2 := Nat.exists_eq_add_of_le' hrow
  obtain ⟨r, u, hr, hrun, rfl⟩ := exists_row_of_runRow hcycle
  obtain ⟨c, -, hrun'⟩ := (Template.plain_of_getElem? hr).run_control hrun b s.pipe
  obtain ⟨d, hd⟩ := T.afterRow_control (n + 1) r u c s.pipe
  exact ⟨d, by rw [← hd]; exact runRow_of_row hr hrun'⟩
end

section
/-! SUPPORT. The instruction that a boundary fetches, and what its retire leaves. -/

namespace Sys2Proof.Machine

open Sys2Proof

/-- Every instruction but `EI` commits a scheduled enable (R181). -/
theorem commitsEnable_eq_decide (i : Instr) : commitsEnable i = decide (i ≠ .ei) := by
  cases i <;> rfl

/-- What a retire leaves, in the terms of the rule (R181). -/
theorem State.retire_eq (t : State) (k : Bool) :
    t.retire k = { t with
      ime := t.ime || (t.imeSched && k)
      imeSched := t.imeSched && !k
      scratch := []
      pipe := none } := by
  unfold State.retire
  cases k <;> cases t.imeSched <;> simp

/-- Three bytes hold the instruction that they begin with (R105, R109). -/
theorem eq_decode3_of_decode {op b1 b2 : Byte} {i : Instr} {rest : List Byte} (h : decode [op, b1, b2] = .ok (i, rest)) :
    i = decode3 op b1 b2 := by
  obtain ⟨_, _, hbytes, -, hi, -⟩ := eq_cons_of_decode h
  cases hbytes
  exact hi

/-- The bytes that a fetch reads: at `PC` and at the two addresses after the opcode fetch (R174, R175). -/
theorem State.fetchInstr_eq (s : State) :
    s.fetchInstr = decode3 (s.read s.pc) (s.read (if s.haltBug then s.pc else s.pc + 1#16))
      (s.read (if s.haltBug then s.pc + 1#16 else s.pc + 2#16)) := by
  rw [State.fetchInstr, State.pcAfterOpcode]
  split
  · rfl
  · rw [word_add_add]

theorem step_of_fetch {s : State} (hp : s.pipe = none) (hb : s.boundary = .fetch) : step s = runInstr s.woken := by
  simp only [step, hp, hb]

theorem runInstr_eq {s t : State} (h : exec s.fetchInstr s = .next t) :
    runInstr s = .next (t.retire (commitsEnable s.fetchInstr)) := by
  simp only [runInstr, h]

end Sys2Proof.Machine

open Sys2Proof Sys2Proof.Machine

/-- Settles O5: the boundary fetches, and the instruction fetched is the decoded one. -/
theorem stepRunsDecodedInstruction : Obligations.StepRunsDecodedInstruction := by
  intro s i rest hp hh hi hdecode
  obtain rfl : i = s.woken.fetchInstr := (eq_decode3_of_decode hdecode).trans s.woken.fetchInstr_eq.symm
  obtain ⟨t, ht⟩ := exec_completes s.woken s.woken.fetchInstr
  refine ⟨t, ht, ?_⟩
  rw [step_of_fetch hp (s.boundary_eq_fetch hh hi), runInstr_eq ht, State.retire_eq, commitsEnable_eq_decide, decide_not,
    Bool.not_not]
end

section
/-! SUPPORT. Each immediate step and each bus access (R171, R174 to R178) as the operation of the state that `exec`
uses for it, with the scratch stack beside it. -/

namespace Sys2Proof.Machine

open Sys2Proof

/-! ## The micro-steps as operations of the state -/

/-- The state with `l` as its scratch stack. -/
def State.withScratch (s : State) (l : List Byte) : State := { s with scratch := l }

section
variable (s : State) (l : List Byte)

@[simp] theorem State.withScratch_withScratch (k : List Byte) : (s.withScratch l).withScratch k = s.withScratch k := rfl
@[simp] theorem State.withScratch_cond (k : Cond) : (s.withScratch l).cond k = s.cond k := rfl

@[simp] theorem State.reg_a : s.reg .a = s.a := rfl
@[simp] theorem State.pair_hl : s.pair .hl = s.hl := rfl
@[simp] theorem State.indirectAddr_bc : s.indirectAddr .bc = s.pair .bc := rfl
@[simp] theorem State.indirectAddr_de : s.indirectAddr .de = s.pair .de := rfl
@[simp] theorem State.indirectAddr_hlInc : s.indirectAddr .hlInc = s.hl := rfl
@[simp] theorem State.indirectAddr_hlDec : s.indirectAddr .hlDec = s.hl := rfl
@[simp] theorem State.indirectStep_bc : s.indirectStep .bc = s := rfl
@[simp] theorem State.indirectStep_de : s.indirectStep .de = s := rfl
@[simp] theorem State.indirectStep_hlInc : s.indirectStep .hlInc = s.setPair .hl (inc16 s.hl) := rfl
@[simp] theorem State.indirectStep_hlDec : s.indirectStep .hlDec = s.setPair .hl (dec16 s.hl) := rfl
@[simp] theorem State.word_hl : s.word .hl = s.hl := rfl
@[simp] theorem State.word_sp : s.word .sp = s.sp := rfl
@[simp] theorem State.word_pc : s.word .pc = s.pc := rfl
@[simp] theorem State.word_pairReg (p : Nat) : s.word (pairReg p) = s.pair (r16 p) := by
  rcases p with _ | _ | _ | p <;> rfl
@[simp] theorem State.word_stkReg (p : Nat) : s.word (stkReg p) = s.stk (r16stk p) := by
  rcases p with _ | _ | _ | p <;> rfl

@[simp] theorem Micro.run_pushReg (r : Reg8) :
    (Micro.pushReg r).run (s.withScratch l) = some (s.withScratch (s.reg r :: l)) := rfl
@[simp] theorem Micro.run_popReg (r : Reg8) (v : Byte) :
    (Micro.popReg r).run (s.withScratch (v :: l)) = some ((s.setReg r v).withScratch l) := by
  cases r <;> rfl
@[simp] theorem Micro.run_pushWord (w : WordReg) :
    (Micro.pushWord w).run (s.withScratch l) = some (s.withScratch (hiByte (s.word w) :: loByte (s.word w) :: l)) := rfl
@[simp] theorem Micro.run_popWord_hl (hi lo : Byte) :
    (Micro.popWord .hl).run (s.withScratch (hi :: lo :: l)) = some ((s.setPair .hl (joinBytes hi lo)).withScratch l) := rfl
@[simp] theorem Micro.run_popWord_sp (hi lo : Byte) :
    (Micro.popWord .sp).run (s.withScratch (hi :: lo :: l)) = some ((s.setPair .sp (joinBytes hi lo)).withScratch l) := rfl
@[simp] theorem Micro.run_popWord_pc (hi lo : Byte) :
    (Micro.popWord .pc).run (s.withScratch (hi :: lo :: l)) = some ((s.jump (joinBytes hi lo)).withScratch l) := rfl
@[simp] theorem Micro.run_popWord_pairReg (p : Nat) (hi lo : Byte) :
    (Micro.popWord (pairReg p)).run (s.withScratch (hi :: lo :: l)) =
      some ((s.setPair (r16 p) (joinBytes hi lo)).withScratch l) := by
  rcases p with _ | _ | _ | p <;> rfl
@[simp] theorem Micro.run_popWord_stkReg (p : Nat) (hi lo : Byte) :
    (Micro.popWord (stkReg p)).run (s.withScratch (hi :: lo :: l)) =
      some ((s.setStk (r16stk p) (joinBytes hi lo)).withScratch l) := by
  rcases p with _ | _ | _ | p <;> rfl
@[simp] theorem Micro.run_pushHi (w : WordReg) :
    (Micro.pushHi w).run (s.withScratch l) = some (s.withScratch (hiByte (s.word w) :: l)) := rfl
@[simp] theorem Micro.run_pushLo (w : WordReg) :
    (Micro.pushLo w).run (s.withScratch l) = some (s.withScratch (loByte (s.word w) :: l)) := rfl
@[simp] theorem Micro.run_dupWord (hi lo : Byte) :
    Micro.dupWord.run (s.withScratch (hi :: lo :: l)) = some (s.withScratch (hi :: lo :: hi :: lo :: l)) := rfl
@[simp] theorem Micro.run_nextAddr (hi lo : Byte) :
    Micro.nextAddr.run (s.withScratch (hi :: lo :: l)) =
      some (s.withScratch (hiByte (joinBytes hi lo + 1#16) :: loByte (joinBytes hi lo + 1#16) :: l)) := rfl
@[simp] theorem Micro.run_drop (v : Byte) : Micro.drop.run (s.withScratch (v :: l)) = some (s.withScratch l) := rfl
@[simp] theorem Micro.run_incPair (p : Pair16) :
    (Micro.incPair p).run (s.withScratch l) = some ((s.setPair p (inc16 (s.pair p))).withScratch l) := by
  cases p <;> rfl
@[simp] theorem Micro.run_decPair (p : Pair16) :
    (Micro.decPair p).run (s.withScratch l) = some ((s.setPair p (dec16 (s.pair p))).withScratch l) := by
  cases p <;> rfl
@[simp] theorem Micro.run_alu (op : AluOp) (v : Byte) :
    (Micro.alu op).run (s.withScratch (v :: l)) = some ((s.alu op v).withScratch l) := rfl
@[simp] theorem Micro.run_incByte (v : Byte) :
    Micro.incByte.run (s.withScratch (v :: l)) = some ((s.setFlags (inc8 v).2).withScratch ((inc8 v).1 :: l)) := rfl
@[simp] theorem Micro.run_decByte (v : Byte) :
    Micro.decByte.run (s.withScratch (v :: l)) = some ((s.setFlags (dec8 v).2).withScratch ((dec8 v).1 :: l)) := rfl
@[simp] theorem Micro.run_rotA (o : AccRot) :
    (Micro.rotA o).run (s.withScratch l) =
      some (((s.setReg .a (accApply o s.a s.fC).1).setFlags (accApply o s.a s.fC).2).withScratch l) := rfl
@[simp] theorem Micro.run_rotByte (o : RotOp) (v : Byte) :
    (Micro.rotByte o).run (s.withScratch (v :: l)) =
      some ((s.setFlags (rotApply o v s.fC).2).withScratch ((rotApply o v s.fC).1 :: l)) := rfl
@[simp] theorem Micro.run_testBit (n : Fin 8) (v : Byte) :
    (Micro.testBit n).run (s.withScratch (v :: l)) = some ((s.setFlags (bitFlags n v)).withScratch l) := rfl
@[simp] theorem Micro.run_clearBit (n : Fin 8) (v : Byte) :
    (Micro.clearBit n).run (s.withScratch (v :: l)) = some (s.withScratch (resBit n v :: l)) := rfl
@[simp] theorem Micro.run_raiseBit (n : Fin 8) (v : Byte) :
    (Micro.raiseBit n).run (s.withScratch (v :: l)) = some (s.withScratch (setBit n v :: l)) := rfl
@[simp] theorem Micro.run_daa :
    Micro.daa.run (s.withScratch l) =
      some (((s.setReg .a (daa8 s.a s.fN s.fH s.fC).1).setFlags (daa8 s.a s.fN s.fH s.fC).2).withScratch l) := rfl
@[simp] theorem Micro.run_cpl :
    Micro.cpl.run (s.withScratch l) = some (((s.setReg .a (cpl8 s.a).1).setFlags (cpl8 s.a).2).withScratch l) := rfl
@[simp] theorem Micro.run_scf : Micro.scf.run (s.withScratch l) = some ((s.setFlags scfFlags).withScratch l) := rfl
@[simp] theorem Micro.run_ccf : Micro.ccf.run (s.withScratch l) = some ((s.setFlags (ccfFlags s.fC)).withScratch l) := rfl
@[simp] theorem Micro.run_addHl (hi lo : Byte) :
    Micro.addHl.run (s.withScratch (hi :: lo :: l)) =
      some (((s.setFlags (add16 s.hl (joinBytes hi lo)).2).setPair .hl (add16 s.hl (joinBytes hi lo)).1).withScratch l) :=
  rfl
@[simp] theorem Micro.run_addSp (e : Byte) :
    Micro.addSp.run (s.withScratch (e :: l)) =
      some ((s.setFlags (addsp s.sp e).2).withScratch (hiByte (addsp s.sp e).1 :: loByte (addsp s.sp e).1 :: l)) := rfl
@[simp] theorem Micro.run_jumpBy (e : Byte) :
    Micro.jumpBy.run (s.withScratch (e :: l)) = some ((s.jumpBy e).withScratch l) := rfl
@[simp] theorem Micro.run_setPc (x : Word) : (Micro.setPc x).run (s.withScratch l) = some ((s.jump x).withScratch l) := rfl
@[simp] theorem Micro.run_setIme :
    Micro.setIme.run (s.withScratch l) = some (State.withScratch { s with ime := true } l) := rfl
@[simp] theorem Micro.run_halt_withScratch : Micro.halt.run (s.withScratch l) = some (s.halt.withScratch l) := rfl
@[simp] theorem Micro.run_stop : Micro.stop.run (s.withScratch l) = some (s.stop.withScratch l) := rfl
@[simp] theorem Micro.run_di : Micro.di.run (s.withScratch l) = some (s.di.withScratch l) := rfl
@[simp] theorem Micro.run_ei : Micro.ei.run (s.withScratch l) = some (s.ei.withScratch l) := rfl
@[simp] theorem Micro.run_enterDispatch (k : IrqSource) :
    (Micro.enterDispatch k).run (s.withScratch l) = some ((s.enterDispatch k).withScratch l) := rfl

@[simp] theorem BusStep.run_fetch : BusStep.fetch.run s = some (.read s.pc, (s.past 1).withScratch []) := rfl
@[simp] theorem BusStep.run_param (n : Nat) :
    BusStep.param.run ((s.past (n + 1)).withScratch l) =
      some (.read (s.past (n + 1)).pc, (s.past (n + 2)).withScratch ((s.past (n + 1)).read (s.past (n + 1)).pc :: l)) := rfl
@[simp] theorem BusStep.run_readPair (p : Pair16) :
    (BusStep.readPair p).run (s.withScratch l) = some (.read (s.pair p), s.withScratch (s.read (s.pair p) :: l)) := rfl
@[simp] theorem BusStep.run_readHighC :
    BusStep.readHighC.run (s.withScratch l) = some (.read (highPage s.c), s.withScratch (s.read (highPage s.c) :: l)) := rfl
@[simp] theorem BusStep.run_readHigh (n : Byte) :
    BusStep.readHigh.run (s.withScratch (n :: l)) =
      some (.read (highPage n), s.withScratch (s.read (highPage n) :: l)) := rfl
@[simp] theorem BusStep.run_readAbs (hi lo : Byte) :
    BusStep.readAbs.run (s.withScratch (hi :: lo :: l)) =
      some (.read (joinBytes hi lo), s.withScratch (s.read (joinBytes hi lo) :: l)) := rfl
@[simp] theorem BusStep.run_writePair (p : Pair16) (v : Byte) :
    (BusStep.writePair p).run (s.withScratch (v :: l)) =
      some (.write (s.pair p) v, (s.write (s.pair p) v).withScratch l) := by
  cases p <;> rfl
@[simp] theorem BusStep.run_writeHighC (v : Byte) :
    BusStep.writeHighC.run (s.withScratch (v :: l)) =
      some (.write (highPage s.c) v, (s.write (highPage s.c) v).withScratch l) := rfl
@[simp] theorem BusStep.run_writeHigh (v n : Byte) :
    BusStep.writeHigh.run (s.withScratch (v :: n :: l)) =
      some (.write (highPage n) v, (s.write (highPage n) v).withScratch l) := rfl
@[simp] theorem BusStep.run_writeAbs (v hi lo : Byte) :
    BusStep.writeAbs.run (s.withScratch (v :: hi :: lo :: l)) =
      some (.write (joinBytes hi lo) v, (s.write (joinBytes hi lo) v).withScratch l) := rfl
@[simp] theorem BusStep.run_stackRead :
    BusStep.stackRead.run (s.withScratch l) = some (.read s.sp, s.dropByte.withScratch (s.read s.sp :: l)) := rfl
@[simp] theorem BusStep.run_stackWrite (v : Byte) :
    BusStep.stackWrite.run (s.withScratch (v :: l)) = some (.write (s.sp - 1#16) v, (s.pushByte v).withScratch l) := rfl
@[simp] theorem BusStep.run_internal : BusStep.internal.run s = some (.internal, s) := rfl

end

/-- A row is its three parts, one after the other. -/
@[simp] theorem Row.run_mk (s : State) (pre post : List Micro) (bus : BusStep) (cond : Option Cond) :
    Row.run ⟨pre, bus, post, cond⟩ s =
      (runMicros pre s).bind fun s1 => (bus.run s1).bind fun x => (runMicros post x.2).map fun s3 => (x.1, s3) := by
  simp only [Row.run]
  cases runMicros pre s with
  | none => rfl
  | some s1 =>
    cases hb : bus.run s1 with
    | none => simp [hb]
    | some x => cases hm : runMicros post x.2 <;> simp [hb, hm]

end Sys2Proof.Machine
end

section
/-! SUPPORT. The M-cycle tables against `exec`, family by family: the rows of a template do what the instruction's
meaning says, in the number of cycles of the timing table (R10, R463). -/

namespace Sys2Proof.Machine

open Sys2Proof

/-! ## Rows run to the end of their pipeline -/

/-- The row's condition ends the pipeline in `t` (R179). -/
@[simp] def Row.stops (r : Row) (t : State) : Bool := r.cond.any fun k => !t.cond k

/-- The rows run from `s`, one a machine cycle, to the one that ends the pipeline: how many, and the state before the
retire, its scratch stack dropped. -/
@[simp] def runRows (rows : List Row) (s : State) : Option (Nat × State) :=
  match rows with
  | [] => none
  | r :: rest =>
    match r.run s with
    | none => none
    | some (_, t) =>
      if rest.isEmpty || r.stops t then some (1, t.withScratch []) else (runRows rest t).map fun x => (x.1 + 1, x.2)

/-- From `s`, the opcode fetch with the steps `rows.1` and the later rows `rows.2` do what `exec` says of `i`, in the timing
table's number of cycles. -/
def RunsAs (s : State) (rows : List Micro × List Row) (i : Instr) : Prop :=
  ∃ n t, exec i s = .next t ∧ s.cyclesOf i = some n ∧
    runRows ({ bus := .fetch, post := rows.1 } :: rows.2) s = some (n, t.withScratch [])

/-- The byte that an instruction's first `paramByte` reads (R175). -/
@[simp] def State.imm8 (s : State) : Byte := s.read s.pcAfterOpcode

/-- The word that two `paramByte`s read, low byte first (R65, R175). -/
@[simp] def State.imm16 (s : State) : Word := joinBytes (s.read (s.pcAfterOpcode + 1#16)) s.imm8

/-! ## The families -/

theorem State.returnTo_false (s : State) : s.returnTo false = s.dropWord.jump s.topWord := rfl
theorem State.returnTo_true (s : State) : s.returnTo true = { s.dropWord.jump s.topWord with ime := true } := rfl

section
variable (s : State)

theorem runsAs_ldLocLoc (x y : Loc8) : RunsAs s (loadRows x y) (.ldLocLoc x y) := by
  cases x with
  | reg x =>
    cases y with
    | reg y => exact ⟨1, _, exec_ldRegReg s x y, by cases x <;> cases y <;> rfl, by simp [loadRows, loadRegReg]⟩
    | memHl => exact ⟨2, _, exec_ldRegMem s x, by cases x <;> rfl, by simp [loadRows, loadRegMem]⟩
  | memHl =>
    cases y with
    | reg y => exact ⟨2, _, exec_ldMemReg s y, by cases y <;> rfl, by simp [loadRows, storeMemReg]⟩
    | memHl => exact ⟨1, _, exec_halt s, rfl, by simp [loadRows, haltCore]⟩

theorem runsAs_aluLoc (op : AluOp) (x : Loc8) : RunsAs s (aluRows op x) (.aluLoc op x) := by
  cases x with
  | reg x => exact ⟨1, _, exec_aluReg s op x, by cases op <;> cases x <;> rfl, by simp [aluRows, aluRegister]⟩
  | memHl => exact ⟨2, _, exec_aluMem s op, by cases op <;> rfl, by simp [aluRows, aluMemory]⟩

theorem runsAs_incLoc (x : Loc8) : RunsAs s (incDecRows .incByte x) (.incLoc x) := by
  cases x with
  | reg x => exact ⟨1, _, exec_incReg s x, by cases x <;> rfl, by simp [incDecRows, regWork, incRegister]⟩
  | memHl => exact ⟨3, _, exec_incMemHl s, rfl, by simp [incDecRows, incMemory]⟩

theorem runsAs_decLoc (x : Loc8) : RunsAs s (incDecRows .decByte x) (.decLoc x) := by
  cases x with
  | reg x => exact ⟨1, _, exec_decReg s x, by cases x <;> rfl, by simp [incDecRows, regWork, decRegister]⟩
  | memHl => exact ⟨3, _, exec_decMemHl s, rfl, by simp [incDecRows, decMemory]⟩

theorem runsAs_ldLocImm (y : Nat) : RunsAs s (rows0 y 6) (.ldLocImm (r8 y) s.imm8) := by
  simp only [rows0]
  cases r8 y with
  | reg x => exact ⟨2, _, exec_ldRegImm s x _, by cases x <;> rfl, by simp [loadRegImm]⟩
  | memHl => exact ⟨3, _, exec_ldMemHlN s _, rfl, by simp [paramRow, storeMemImm]⟩

/-! ### Quadrant 0 (R99) -/

theorem runsAs_nop : RunsAs s (rows0 0 0) .nop := ⟨1, _, exec_nop s, rfl, by simp [rows0, noOperation]⟩
theorem runsAs_ldMemNnSp : RunsAs s (rows0 1 0) (.ldMemNnSp s.imm16) :=
  ⟨5, _, exec_ldMemNnSp s _, rfl, by simp [rows0, paramRow, storeAbsSp]⟩
theorem runsAs_stop : RunsAs s (rows0 2 0) .stop := ⟨1, _, exec_stop s, rfl, by simp [rows0, stopCore]⟩
theorem runsAs_jrE : RunsAs s (rows0 3 0) (.jrE s.imm8) :=
  ⟨3, _, exec_jrE s _, rfl, by simp [rows0, paramRow, jumpRelative]⟩
theorem runsAs_jrCond (k : Cond) :
    RunsAs s ([], [{ bus := .param, cond := some k }, { post := [.jumpBy] }]) (.jrCond k s.imm8) :=
  ⟨if s.cond k then 3 else 2, _, exec_jrCond s k _, by cases k <;> rfl,
    by cases hk : s.cond k <;> simp [hk, jumpRelativeIf, State.branch]⟩

theorem runsAs_ldPairImm (p : Nat) :
    RunsAs s ([], [paramRow, { bus := .param, post := [.popWord (pairReg p)] }]) (.ldPairImm (r16 p) s.imm16) :=
  ⟨3, _, exec_ldPairImm s _ _, by cases r16 p <;> rfl, by simp [paramRow, loadPairImm]⟩
theorem runsAs_addHlPair (p : Nat) :
    RunsAs s ([], [{ post := [.pushWord (pairReg p), .addHl] }]) (.addHlPair (r16 p)) :=
  ⟨2, _, exec_addHlPair s _, by cases r16 p <;> rfl, by simp [addToHl]⟩

theorem runsAs_ldIndirectA {p : Nat} (hp : p < 4) : RunsAs s (rows0 (2 * p) 2) (.ldIndirectA (indirect p)) := by
  interval_cases p <;> exact ⟨2, _, exec_ldIndirectA s _, rfl, by simp [rows0, indirect, storeIndirectA]⟩
theorem runsAs_ldAIndirect {p : Nat} (hp : p < 4) : RunsAs s (rows0 (2 * p + 1) 2) (.ldAIndirect (indirect p)) := by
  interval_cases p <;> exact ⟨2, _, exec_ldAIndirect s _, rfl, by simp [rows0, indirect, loadAIndirect]⟩

theorem runsAs_incPair (p : Nat) : RunsAs s ([], [{ post := [.incPair (r16 p)] }]) (.incPair (r16 p)) :=
  ⟨2, _, exec_incPair s _, by cases r16 p <;> rfl, by simp [incrementPair]⟩
theorem runsAs_decPair (p : Nat) : RunsAs s ([], [{ post := [.decPair (r16 p)] }]) (.decPair (r16 p)) :=
  ⟨2, _, exec_decPair s _, by cases r16 p <;> rfl, by simp [decrementPair]⟩

theorem runsAs_accRot (o : AccRot) : RunsAs s ([.rotA o], []) (.accRot o) :=
  ⟨1, _, exec_accRot s o, by cases o <;> rfl, by simp [rotateA]⟩
theorem runsAs_daa : RunsAs s (rows0 4 7) .daa := ⟨1, _, exec_daa s, rfl, by simp [rows0, adjustA]⟩
theorem runsAs_cpl : RunsAs s (rows0 5 7) .cpl := ⟨1, _, exec_cpl s, rfl, by simp [rows0, complementA]⟩
theorem runsAs_scf : RunsAs s (rows0 6 7) .scf := ⟨1, _, exec_scf s, rfl, by simp [rows0, setCarry]⟩
theorem runsAs_ccf : RunsAs s (rows0 7 7) .ccf := ⟨1, _, exec_ccf s, rfl, by simp [rows0, complementCarry]⟩

/-- Every row of the base table with `x = 0`. -/
theorem runsAs_quadrant0 {y z : Nat} (hy : y < 8) (hz : z < 8) :
    RunsAs s (rows0 y z) (quadrant0 y z s.imm8 s.imm16) := by
  interval_cases z
  · interval_cases y
    · exact runsAs_nop s
    · exact runsAs_ldMemNnSp s
    · exact runsAs_stop s
    · exact runsAs_jrE s
    · exact runsAs_jrCond s .nz
    · exact runsAs_jrCond s .z
    · exact runsAs_jrCond s .nc
    · exact runsAs_jrCond s .c
  · rcases y.mod_two_eq_zero_or_one with hq | hq <;> simp only [rows0, quadrant0, hq]
    · exact runsAs_ldPairImm s _
    · exact runsAs_addHlPair s _
  · interval_cases y
    · exact runsAs_ldIndirectA s (p := 0) (by decide)
    · exact runsAs_ldAIndirect s (p := 0) (by decide)
    · exact runsAs_ldIndirectA s (p := 1) (by decide)
    · exact runsAs_ldAIndirect s (p := 1) (by decide)
    · exact runsAs_ldIndirectA s (p := 2) (by decide)
    · exact runsAs_ldAIndirect s (p := 2) (by decide)
    · exact runsAs_ldIndirectA s (p := 3) (by decide)
    · exact runsAs_ldAIndirect s (p := 3) (by decide)
  · rcases y.mod_two_eq_zero_or_one with hq | hq <;> simp only [rows0, quadrant0, hq]
    · exact runsAs_incPair s _
    · exact runsAs_decPair s _
  · exact runsAs_incLoc s (r8 y)
  · exact runsAs_decLoc s (r8 y)
  · exact runsAs_ldLocImm s y
  · interval_cases y
    · exact runsAs_accRot s .rlca
    · exact runsAs_accRot s .rrca
    · exact runsAs_accRot s .rla
    · exact runsAs_accRot s .rra
    · exact runsAs_daa s
    · exact runsAs_cpl s
    · exact runsAs_scf s
    · exact runsAs_ccf s

/-! ### Quadrant 3 (R102, R104) -/

theorem runsAs_ldhMemNA : RunsAs s (rows3 4 0) (.ldhMemNA s.imm8) :=
  ⟨3, _, exec_ldhMemNA s _, rfl, by simp [rows3, paramRow, storeHighA]⟩
theorem runsAs_addSpE : RunsAs s (rows3 5 0) (.addSpE s.imm8) :=
  ⟨4, _, exec_addSpE s _, rfl, by simp [rows3, paramRow, addToSp]⟩
theorem runsAs_ldhAMemN : RunsAs s (rows3 6 0) (.ldhAMemN s.imm8) :=
  ⟨3, _, exec_ldhAMemN s _, rfl, by simp [rows3, paramRow, loadAHigh]⟩
theorem runsAs_ldHlSpE : RunsAs s (rows3 7 0) (.ldHlSpE s.imm8) :=
  ⟨3, _, exec_ldHlSpE s _, rfl, by simp [rows3, paramRow, loadHlSpPlus]⟩
theorem runsAs_retCond (k : Cond) : RunsAs s ([], { cond := some k } :: returnRows) (.retCond k) :=
  ⟨if s.cond k then 5 else 2, _, exec_retCond s k, by cases k <;> rfl,
    by cases hk : s.cond k <;>
      simp [hk, returnRows, returnIf, State.branch, State.returnTo_false, State.topWord, State.dropWord]⟩

theorem runsAs_pop (p : Nat) :
    RunsAs s ([], [{ bus := .stackRead }, { bus := .stackRead, post := [.popWord (stkReg p)] }]) (.pop (r16stk p)) :=
  ⟨3, _, exec_pop s _, by cases r16stk p <;> rfl, by simp [popPair, State.topWord, State.dropWord]⟩
theorem runsAs_ret : RunsAs s (rows3 1 1) .ret :=
  ⟨4, _, exec_ret s, rfl, by simp [rows3, returnRows, returnFrom, State.returnTo_false, State.topWord, State.dropWord]⟩
theorem runsAs_reti : RunsAs s (rows3 3 1) .reti :=
  ⟨4, _, exec_reti s, rfl, by simp [rows3, returnEnabling, State.returnTo_true, State.topWord, State.dropWord]⟩
theorem runsAs_jpHl : RunsAs s (rows3 5 1) .jpHl := ⟨1, _, exec_jpHl s, rfl, by simp [rows3, jumpHl]⟩
theorem runsAs_ldSpHl : RunsAs s (rows3 7 1) .ldSpHl := ⟨2, _, exec_ldSpHl s, rfl, by simp [rows3, loadSpHl]⟩

theorem runsAs_ldhMemCA : RunsAs s (rows3 4 2) .ldhMemCA := ⟨2, _, exec_ldhMemCA s, rfl, by simp [rows3, storeHighCA]⟩
theorem runsAs_ldMemNnA : RunsAs s (rows3 5 2) (.ldMemNnA s.imm16) :=
  ⟨4, _, exec_ldMemNnA s _, rfl, by simp [rows3, paramRow, storeAbsA]⟩
theorem runsAs_ldhAMemC : RunsAs s (rows3 6 2) .ldhAMemC := ⟨2, _, exec_ldhAMemC s, rfl, by simp [rows3, loadAHighC]⟩
theorem runsAs_ldAMemNn : RunsAs s (rows3 7 2) (.ldAMemNn s.imm16) :=
  ⟨4, _, exec_ldAMemNn s _, rfl, by simp [rows3, paramRow, loadAAbs]⟩
theorem runsAs_jpCond (k : Cond) :
    RunsAs s ([], [paramRow, { bus := .param, cond := some k }, { post := [.popWord .pc] }]) (.jpCond k s.imm16) :=
  ⟨if s.cond k then 4 else 3, _, exec_jpCond s k _, by cases k <;> rfl,
    by cases hk : s.cond k <;> simp [hk, paramRow, jumpIf, State.branch]⟩

theorem runsAs_jpNn : RunsAs s (rows3 0 3) (.jpNn s.imm16) := ⟨4, _, exec_jpNn s _, rfl, by simp [rows3, paramRow, jumpTo]⟩
theorem runsAs_di : RunsAs s (rows3 6 3) .di := ⟨1, _, exec_di s, rfl, by simp [rows3, disableInterrupts]⟩
theorem runsAs_ei : RunsAs s (rows3 7 3) .ei := ⟨1, _, exec_ei s, rfl, by simp [rows3, enableInterrupts]⟩
theorem runsAs_undefined {i : Instr} (hi : i ∈ Instr.undefinedOpcodes) : RunsAs s ([], []) i := by
  refine ⟨1, _, exec_undefined s hi, ?_, by simp [noOperation]⟩
  revert i
  simp only [Instr.undefinedOpcodes, List.forall_mem_cons]
  exact ⟨rfl, rfl, rfl, rfl, rfl, rfl, rfl, rfl, rfl, rfl, rfl, by simp⟩

theorem runsAs_callCond (k : Cond) :
    RunsAs s ([], [paramRow, { bus := .param, cond := some k }, {}] ++ pushPcRows [.popWord .pc]) (.callCond k s.imm16) :=
  ⟨if s.cond k then 6 else 3, _, exec_callCond s k _, by cases k <;> rfl,
    by cases hk : s.cond k <;> simp [hk, paramRow, pushPcRows, callIf, State.branch, State.call, State.pushWord]⟩
theorem runsAs_push (p : Nat) :
    RunsAs s ([.pushWord (stkReg p)], [{}, { bus := .stackWrite }, { bus := .stackWrite }]) (.push (r16stk p)) :=
  ⟨4, _, exec_push s _, by cases r16stk p <;> rfl, by simp [pushPair, State.pushWord]⟩
theorem runsAs_callNn : RunsAs s (rows3 1 5) (.callNn s.imm16) :=
  ⟨6, _, exec_callNn s _, rfl, by simp [rows3, paramRow, pushPcRows, callTo, State.call, State.pushWord]⟩
theorem runsAs_aluImm (op : AluOp) : RunsAs s ([], [{ bus := .param, post := [.alu op] }]) (.aluImm op s.imm8) :=
  ⟨2, _, exec_aluImm s op _, by cases op <;> rfl, by simp [aluImmediate]⟩
theorem runsAs_rst {y : Nat} (hy : y < 8) :
    RunsAs s ([], {} :: pushPcRows [.setPc (BitVec.ofNat 16 (y * 8))]) (.rst (index3 y)) := by
  interval_cases y <;>
    exact ⟨4, _, exec_rst s _, rfl, by simp [pushPcRows, restart, index3, State.call, State.pushWord]⟩

/-- Every row of the base table with `x = 3` but that of `0xCB`. -/
theorem runsAs_quadrant3 {y z : Nat} (hy : y < 8) (hz : z < 8) (hcb : ¬ (y = 1 ∧ z = 3)) :
    RunsAs s (rows3 y z) (quadrant3 y z s.imm8 s.imm16) := by
  interval_cases z
  · interval_cases y
    · exact runsAs_retCond s .nz
    · exact runsAs_retCond s .z
    · exact runsAs_retCond s .nc
    · exact runsAs_retCond s .c
    · exact runsAs_ldhMemNA s
    · exact runsAs_addSpE s
    · exact runsAs_ldhAMemN s
    · exact runsAs_ldHlSpE s
  · interval_cases y
    · exact runsAs_pop s 0
    · exact runsAs_ret s
    · exact runsAs_pop s 1
    · exact runsAs_reti s
    · exact runsAs_pop s 2
    · exact runsAs_jpHl s
    · exact runsAs_pop s 3
    · exact runsAs_ldSpHl s
  · interval_cases y
    · exact runsAs_jpCond s .nz
    · exact runsAs_jpCond s .z
    · exact runsAs_jpCond s .nc
    · exact runsAs_jpCond s .c
    · exact runsAs_ldhMemCA s
    · exact runsAs_ldMemNnA s
    · exact runsAs_ldhAMemC s
    · exact runsAs_ldAMemNn s
  · interval_cases y
    · exact runsAs_jpNn s
    · exact absurd ⟨rfl, rfl⟩ hcb
    · exact runsAs_undefined s (i := .undefinedD3) (by decide)
    · exact runsAs_undefined s (i := .undefinedDB) (by decide)
    · exact runsAs_undefined s (i := .undefinedE3) (by decide)
    · exact runsAs_undefined s (i := .undefinedEB) (by decide)
    · exact runsAs_di s
    · exact runsAs_ei s
  · interval_cases y
    · exact runsAs_callCond s .nz
    · exact runsAs_callCond s .z
    · exact runsAs_callCond s .nc
    · exact runsAs_callCond s .c
    · exact runsAs_undefined s (i := .undefinedE4) (by decide)
    · exact runsAs_undefined s (i := .undefinedEC) (by decide)
    · exact runsAs_undefined s (i := .undefinedF4) (by decide)
    · exact runsAs_undefined s (i := .undefinedFC) (by decide)
  · interval_cases y
    · exact runsAs_push s 0
    · exact runsAs_callNn s
    · exact runsAs_push s 1
    · exact runsAs_undefined s (i := .undefinedDD) (by decide)
    · exact runsAs_push s 2
    · exact runsAs_undefined s (i := .undefinedED) (by decide)
    · exact runsAs_push s 3
    · exact runsAs_undefined s (i := .undefinedFD) (by decide)
  · exact runsAs_aluImm s (alu y)
  · exact runsAs_rst s hy

/-! ### The CB table (R103, R310) -/

section
variable {op2 : Byte}

theorem runsAs_rotLoc (hx : fieldX op2 = 0) : RunsAs s ([], cbRows op2) (cbInstr op2) := by
  simp only [cbRows, cbByteWork, cbInstr, hx]
  generalize rot (fieldY op2) = o
  cases r8 (fieldZ op2) with
  | reg r =>
    exact ⟨2, _, exec_rotLoc s o (.reg r), by cases o <;> cases r <;> rfl,
      by simp [regWork, rotateLoc, State.rotate, State.loc, State.setLoc]⟩
  | memHl =>
    exact ⟨4, _, exec_rotLoc s o .memHl, by cases o <;> rfl, by simp [rotateLoc, State.rotate, State.loc, State.setLoc]⟩

theorem runsAs_bitLoc (hx : fieldX op2 = 1) : RunsAs s ([], cbRows op2) (cbInstr op2) := by
  simp only [cbRows, cbByteWork, cbInstr, hx]
  generalize index3 (fieldY op2) = n
  cases r8 (fieldZ op2) with
  | reg r =>
    exact ⟨2, _, exec_bitLoc s n (.reg r), by fin_cases n <;> cases r <;> rfl,
      by simp [testBitLoc, State.testBit, State.loc]⟩
  | memHl =>
    exact ⟨3, _, exec_bitLoc s n .memHl, by fin_cases n <;> rfl, by simp [testBitLoc, State.testBit, State.loc]⟩

theorem runsAs_resLoc (hx : fieldX op2 = 2) : RunsAs s ([], cbRows op2) (cbInstr op2) := by
  simp only [cbRows, cbByteWork, cbInstr, hx]
  generalize index3 (fieldY op2) = n
  cases r8 (fieldZ op2) with
  | reg r =>
    exact ⟨2, _, exec_resLoc s n (.reg r), by fin_cases n <;> cases r <;> rfl,
      by simp [regWork, resetBitLoc, State.clearBit, State.loc, State.setLoc]⟩
  | memHl =>
    exact ⟨4, _, exec_resLoc s n .memHl, by fin_cases n <;> rfl,
      by simp [resetBitLoc, State.clearBit, State.loc, State.setLoc]⟩

theorem runsAs_setLoc (hx : fieldX op2 = 3) : RunsAs s ([], cbRows op2) (cbInstr op2) := by
  simp only [cbRows, cbByteWork, cbInstr, hx]
  generalize index3 (fieldY op2) = n
  cases r8 (fieldZ op2) with
  | reg r =>
    exact ⟨2, _, exec_setLoc s n (.reg r), by fin_cases n <;> cases r <;> rfl,
      by simp [regWork, setBitLoc, State.raiseBit, State.loc, State.setLoc]⟩
  | memHl =>
    exact ⟨4, _, exec_setLoc s n .memHl, by fin_cases n <;> rfl,
      by simp [setBitLoc, State.raiseBit, State.loc, State.setLoc]⟩

/-- Every row of the CB table, past the opcode fetch of `0xCB`. -/
theorem runsAs_cbInstr (op2 : Byte) : RunsAs s ([], cbRows op2) (cbInstr op2) := by
  by_cases h0 : fieldX op2 = 0
  · exact runsAs_rotLoc s h0
  by_cases h1 : fieldX op2 = 1
  · exact runsAs_bitLoc s h1
  by_cases h2 : fieldX op2 = 2
  · exact runsAs_resLoc s h2
  · exact runsAs_setLoc s (fieldX_eq_three h0 h1 h2)

end

/-- Every row of the base table but that of `0xCB`. -/
theorem runsAs_baseInstr {op : Byte} (hop : op ≠ 0xCB#8) :
    RunsAs s (baseRows op) (baseInstr op s.imm8 (s.read (s.pcAfterOpcode + 1#16))) := by
  have hy := fieldY_lt op
  have hz := fieldZ_lt op
  unfold baseRows baseInstr
  by_cases h0 : fieldX op = 0
  · simp only [h0]
    exact runsAs_quadrant0 s hy hz
  by_cases h1 : fieldX op = 1
  · simp only [h1]
    exact runsAs_ldLocLoc s _ _
  by_cases h2 : fieldX op = 2
  · simp only [h2]
    exact runsAs_aluLoc s _ _
  · have h3 := fieldX_eq_three h0 h1 h2
    simp only [h3]
    refine runsAs_quadrant3 s hy hz fun ⟨h4, h5⟩ => hop ?_
    rw [← opcodeOf_fields op, h3, h4, h5]
    rfl

/-- The dispatch's rows take the interrupt, and their five cycles end with its retire (R408). -/
theorem runRows_dispatch (k : IrqSource) :
    runRows (Template.rows (.dispatch k)) s =
      some (5, (((s.enterDispatch k).pushWord s.pc).jump k.vector).withScratch []) := by
  change runRows (dispatchRows k) (s.withScratch s.scratch) = _
  simp [dispatchRows, State.pushWord]

end
end Sys2Proof.Machine
end

section
/-! SUPPORT. The cycles from a boundary run the rows of the template that it starts. -/

namespace Sys2Proof.Machine

open Sys2Proof

/-! ## Rows run, and the cycles that run them -/

theorem runRows_le_length {rows : List Row} {s u : State} {k : Nat} (h : runRows rows s = some (k, u)) :
    k ≤ rows.length := by
  induction rows generalizing s k with
  | nil => cases h
  | cons r rest ih =>
    simp only [runRows] at h
    split at h
    · cases h
    · split at h
      · cases h
        exact Nat.le_add_left 1 _
      · obtain ⟨⟨k', u'⟩, hrest, heq⟩ := Option.map_eq_some_iff.mp h
        cases heq
        exact Nat.succ_le_succ (ih hrest)

/-- A template's row ends the pipeline when no row follows it or its condition says so. -/
theorem Template.afterRow_eq {T : Template} {n : Nat} {r : Row} {rest : List Row} (h : T.rows.drop n = r :: rest)
    (t : State) :
    T.afterRow n r t = if rest.isEmpty || r.stops t then t.retire T.commits else { t with pipe := some ⟨T, n + 2⟩ } := by
  have hlast : decide (T.rows.length = n + 1) = rest.isEmpty := by
    have hlen := congrArg List.length h
    rw [List.length_drop, List.length_cons] at hlen
    rw [Bool.eq_iff_iff, decide_eq_true_iff, List.isEmpty_iff_length_eq_zero]
    omega
  have hstops : decide ((r.cond.map fun k => !t.cond k) = some true) = r.stops t := by
    cases hc : r.cond <;> simp [hc]
  rw [Template.afterRow, hlast, hstops]

/-- A cycle that runs the first of the rows, and those that run the rest, end the pipeline together. -/
theorem endsAfter_row {k : Nat} {r : Row} {rest : List Row} {s t u v : State} {op : BusOp} {c : Bool} {p : Pipe}
    (hrows : runRows (r :: rest) s = some (k, u)) (hrun : r.run s = some (op, t))
    (hcycle : cycle v = .next (if rest.isEmpty || r.stops t then t.retire c else { t with pipe := some p }))
    (hrest : ∀ j, runRows rest t = some (j, u) → EndsAfter j { t with pipe := some p } (u.retire c)) :
    EndsAfter k v (u.retire c) := by
  simp only [runRows, hrun] at hrows
  split at hrows
  next hend =>
    cases hrows
    rw [if_pos hend] at hcycle
    exact .last hcycle rfl
  next hend =>
    obtain ⟨⟨j, u'⟩, hj, heq⟩ := Option.map_eq_some_iff.mp hrows
    cases heq
    rw [if_neg hend] at hcycle
    exact .more hcycle (Option.some_ne_none _) (hrest j hj)

/-- From the cursor at a row after the first, the cycles run the rows from there. -/
theorem endsAfter_of_cursor {T : Template} {n k : Nat} {s u : State} {p : Pipe}
    (hrows : runRows (T.rows.drop (n + 1)) s = some (k, u)) (hp : p.resolve s = ⟨T, n + 2⟩) :
    EndsAfter k { s with pipe := some p } (u.retire T.commits) := by
  induction hl : T.rows.drop (n + 1) generalizing n k s p with
  | nil =>
    rw [hl] at hrows
    cases hrows
  | cons r rest ih =>
    rw [hl] at hrows
    have hdrop : T.rows.drop (n + 2) = rest := by rw [← List.drop_drop (i := 1), hl]; rfl
    have hr : T.rows[n + 1]? = some r := by
      rw [← List.head?_drop, hl]; rfl
    cases hrun : r.run s with
    | none => simp [hrun] at hrows
    | some x =>
      obtain ⟨op, t⟩ := x
      obtain ⟨c, hc, hrun'⟩ := (Template.plain_of_getElem? hr).run_control hrun s.ime (some p)
      obtain rfl : c = t.ime := hc rfl
      have hcycle : cycle { s with pipe := some p } = .next (T.afterRow (n + 1) r t) := by
        refine cycle_eq_next (op := op) ((cycleWithBus_of_pipe rfl).trans ?_)
        change runRow (p.resolve s) _ = _
        have hrow := runRow_of_row hr hrun'
        rwa [← hp] at hrow
      rw [Template.afterRow_eq hl] at hcycle
      exact endsAfter_row hrows hrun hcycle fun j hj =>
        ih (hdrop ▸ hj) (Pipe.resolve_of_row (Nat.le_add_left 3 n) t) hdrop

/-- The first cycle of a template other than that of `0xCB`, and the cycles after it, run the template's rows. -/
theorem endsAfter_of_runRow {T : Template} (hT : T ≠ .base 0xCB#8) {k : Nat} {s u v : State}
    (hrows : runRows T.rows s = some (k, u)) (hv : cycleWithBus v = runRow ⟨T, 1⟩ s) :
    EndsAfter k v (u.retire T.commits) := by
  cases hl : T.rows with
  | nil => simp [hl] at hrows
  | cons r rest =>
    cases hrun : r.run s with
    | none => simp [hl, hrun] at hrows
    | some x =>
      obtain ⟨op, t⟩ := x
      have hcycle : cycle v = .next (T.afterRow 0 r t) :=
        cycle_eq_next (hv.trans (runRow_of_row (by rw [hl]; rfl) hrun))
      rw [Template.afterRow_eq (by rw [hl]; rfl)] at hcycle
      exact endsAfter_row (hl ▸ hrows) hrun hcycle fun j hj =>
        endsAfter_of_cursor (n := 0) (by rw [hl]; exact hj) (if_neg fun h => hT (congrArg Pipe.template h))

/-- The opcode fetch of `0xCB`, and the cycles after it, run the CB table's template (R376). -/
theorem endsAfter_of_prefix {k : Nat} {s u v : State} (hrows : runRows (Template.rows (.cb s.imm8)) s = some (k, u))
    (hv : cycleWithBus v = runRow ⟨.base 0xCB#8, 1⟩ s) : EndsAfter k v (u.retire true) := by
  have hfetch : Row.run { bus := .fetch } s = some (.read s.pc, (s.past 1).withScratch []) := rfl
  have hcycle : cycle v = .next { (s.past 1).withScratch [] with pipe := some ⟨.base 0xCB#8, 2⟩ } :=
    cycle_eq_next (hv.trans (runRow_of_row (T := .base 0xCB#8) (n := 0) rfl hfetch))
  refine endsAfter_row (p := ⟨.base 0xCB#8, 2⟩) hrows hfetch ?_ fun j hj =>
    endsAfter_of_cursor (T := .cb s.imm8) (n := 0) hj rfl
  rw [hcycle, if_neg (by simp [cbRows_ne_nil])]

/-- Only `0xFB` is `EI`'s opcode. -/
theorem decode3_eq_ei_iff {op b1 b2 : Byte} : decode3 op b1 b2 = .ei ↔ op = 0xFB#8 := by
  constructor
  · intro h
    have henc := encode_decode3 op b1 b2
    rw [h, List.take_cons (opcodeLength_pos op)] at henc
    exact (List.cons.inj henc).1.symm
  · rintro rfl
    rfl

theorem commits_base (op b1 b2 : Byte) : Template.commits (.base op) = commitsEnable (decode3 op b1 b2) := by
  rw [commitsEnable_eq_decide]
  exact decide_eq_decide.mpr (not_congr decode3_eq_ei_iff.symm)

/-! ## From a boundary -/

/-- From a boundary, `n` cycles, at most six, end at `t`, as does the step, and `n` is the timing table's number. -/
def StepTakes (n : Nat) (s t : State) : Prop :=
  s.stepCycles = some n ∧ n ≤ 6 ∧ step s = .next t ∧ EndsAfter n s t

theorem stepTakes_idle {s : State} (hp : s.pipe = none) (hb : s.boundary = .idle) : StepTakes 1 s s := by
  have hcycle : cycle s = .next s := cycle_eq_next (op := .internal) (by simp only [cycleWithBus, hp, hb])
  exact ⟨by simp only [State.stepCycles, hb], by decide, by simp only [step, hp, hb], .last hcycle hp⟩

theorem stepTakes_dispatch {s : State} {k : IrqSource} (hp : s.pipe = none) (hb : s.boundary = .dispatch k) :
    StepTakes 5 s (s.woken.takeInterrupt k) := by
  refine ⟨by simp only [State.stepCycles, hb], by decide, by simp only [step, hp, hb], ?_⟩
  exact endsAfter_of_runRow (T := .dispatch k) (by simp) (runRows_dispatch s.woken k) (by simp only [cycleWithBus, hp, hb])

/-- From a boundary that fetches: a template whose rows do what `exec` says of the instruction fetched, and whose
cycles run its rows. -/
theorem stepTakes_of_runsAs {s : State} {T : Template} {rows : List Micro × List Row} (hp : s.pipe = none)
    (hb : s.boundary = .fetch) (hruns : RunsAs s.woken rows s.woken.fetchInstr)
    (hT : T.rows = { bus := .fetch, post := rows.1 } :: rows.2)
    (hends : ∀ k u, runRows T.rows s.woken = some (k, u) → EndsAfter k s (u.retire (commitsEnable s.woken.fetchInstr))) :
    ∃ n t, StepTakes n s t := by
  obtain ⟨n, t, hexec, hcycles, hrows⟩ := hruns
  obtain ⟨hsix, -, -⟩ := T.regular
  rw [← hT] at hrows
  refine ⟨n, t.retire (commitsEnable s.woken.fetchInstr), ?_, (runRows_le_length hrows).trans hsix, ?_,
    hends n (t.withScratch []) hrows⟩
  · simp only [State.stepCycles, hb]
    exact hcycles
  · rw [step_of_fetch hp hb, runInstr_eq hexec]

theorem State.fetchInstr_of_prefix {s : State} (hop : s.read s.pc = 0xCB#8) : s.fetchInstr = cbInstr s.imm8 := by
  rw [State.fetchInstr, hop, decode3_prefix, State.imm8]

theorem State.fetchInstr_of_ne_prefix {s : State} (hop : s.read s.pc ≠ 0xCB#8) :
    s.fetchInstr = baseInstr (s.read s.pc) s.imm8 (s.read (s.pcAfterOpcode + 1#16)) := by
  simpa [State.fetchInstr] using decode3_of_ne_prefix hop s.imm16

theorem stepTakes_fetch {s : State} (hp : s.pipe = none) (hb : s.boundary = .fetch) : ∃ n t, StepTakes n s t := by
  have hcycle : cycleWithBus s = runRow ⟨.base (s.woken.read s.woken.pc), 1⟩ s.woken := by
    simp only [cycleWithBus, hp, hb]
  have hcommits : Template.commits (.base (s.woken.read s.woken.pc)) = commitsEnable s.woken.fetchInstr := commits_base ..
  by_cases hop : s.woken.read s.woken.pc = 0xCB#8
  · rw [hop] at hcycle hcommits
    refine stepTakes_of_runsAs (T := .cb s.woken.imm8) (rows := ([], cbRows s.woken.imm8)) hp hb ?_ rfl fun k u hrows => ?_
    · rw [State.fetchInstr_of_prefix hop]
      exact runsAs_cbInstr s.woken s.woken.imm8
    · rw [← hcommits]
      exact endsAfter_of_prefix hrows hcycle
  · refine stepTakes_of_runsAs (T := .base (s.woken.read s.woken.pc)) hp hb ?_ rfl fun k u hrows => ?_
    · rw [State.fetchInstr_of_ne_prefix hop]
      exact runsAs_baseInstr s.woken hop
    · rw [← hcommits]
      exact endsAfter_of_runRow (by simpa using hop) hrows hcycle

end Sys2Proof.Machine

open Sys2Proof Sys2Proof.Machine

/-- Settles O18, by what the boundary starts: for an instruction, the rows of its template do what `exec` says in the
timing table's number of cycles, and the machine cycles run these rows. -/
theorem stepIsTheCyclesOfTheTimingTable : Obligations.StepIsTheCyclesOfTheTimingTable := by
  intro s hp
  obtain ⟨n, t, hcycles, hsix, hstep, hends⟩ : ∃ n t, StepTakes n s t := by
    cases hb : s.boundary with
    | idle => exact ⟨1, s, stepTakes_idle hp hb⟩
    | dispatch k => exact ⟨5, _, stepTakes_dispatch hp hb⟩
    | fetch => exact stepTakes_fetch hp hb
  exact ⟨n, t, hcycles, hends.pos, hsix, hends.cycles_eq, hstep, hends.pipe_eq, fun _ => hends.in_flight⟩
end

section
/-! SUPPORT. The 8-bit loads and stores (R200 to R219): one write of a register or of a byte after the instruction's bytes, and
for the forms on `HL+` and `HL-` a step of `HL` behind it. -/

namespace Sys2Proof.Machine

open Sys2Proof

/-! ## What a load or a store leaves of the state -/

/-- From `s` to `t` an instruction of `len` bytes has moved `PC` past itself and has written no more than `regs` and `addrs`:
`SP`, `F`, the enables and the rest of the frame are as before. -/
def WritesOnly (len : Nat) (regs : List Reg8) (addrs : List Word) (s t : State) : Prop :=
  t.pc = pcPast len s ∧ t.sp = s.sp ∧ t.f = s.f ∧ SameIme s t ∧ Frame regs addrs s t

section
variable (s : State) (n : Nat)

theorem writesOnly_setReg (r : Reg8) (v : Byte) : WritesOnly (n + 1) [r] [] s ((s.past (n + 1)).setReg r v) := by
  obtain ⟨-, hf, hpc, hsp, hime, hframe⟩ := past_setReg s n r v
  exact ⟨hpc, hsp, hf, hime, hframe⟩

theorem writesOnly_write (hm : Memory.wf s.mem = true) (x : Word) (v : Byte) :
    WritesOnly (n + 1) [] [x] s ((s.past (n + 1)).write x v) := by
  obtain ⟨-, hf, hpc, hsp, hime, hframe⟩ := past_write s n hm x v
  exact ⟨hpc, hsp, hf, hime, hframe⟩

end

/-- A write of `HL` behind an instruction's other writes. -/
theorem WritesOnly.setHl {len : Nat} {regs : List Reg8} {addrs : List Word} {s t : State}
    (h : WritesOnly len regs addrs s t) (w : Word) : WritesOnly len (regs ++ [.h, .l]) addrs s (t.setPair .hl w) := by
  obtain ⟨hpc, hsp, hf, ⟨hime, hsched⟩, hframe⟩ := h
  have hwide : Frame (regs ++ [.h, .l]) addrs s t :=
    hframe.mono (List.subset_append_left _ _) (List.Subset.refl _)
  exact ⟨hpc, hsp, hf, ⟨hime, hsched⟩, hwide.setPair .hl w (List.subset_append_right _ _)⟩

theorem State.setPair_hl_hl (t : State) (w : Word) : (t.setPair .hl w).hl = w := joinBytes_halves w

/-! ## An instruction that is one such write -/

section
variable {s : State} {n : Nat} {i : Instr}

theorem exists_next_of_setReg {r : Reg8} {v : Byte} (h : exec i s = .next ((s.past (n + 1)).setReg r v)) :
    ∃ t, exec i s = .next t ∧ t.reg r = v ∧ WritesOnly (n + 1) [r] [] s t :=
  ⟨_, h, by rw [State.setReg_reg, if_pos rfl], writesOnly_setReg s n r v⟩

theorem exists_next_of_write (hm : Memory.wf s.mem = true) {x : Word} {v : Byte}
    (h : exec i s = .next ((s.past (n + 1)).write x v)) :
    ∃ t, exec i s = .next t ∧ t.read x = storedByte s x v ∧ WritesOnly (n + 1) [] [x] s t := by
  obtain ⟨hread, -⟩ := past_write s n hm x v
  exact ⟨_, h, hread, writesOnly_write s n hm x v⟩

end

/-! ## The forms that step `HL` -/

/-- `m` is one of the two forms on `HL`, the one that steps it by `d`. -/
structure StepsHlBy (m : Indirect) (d : Word) : Prop where
  addr_eq : ∀ s : State, s.indirectAddr m = s.hl
  step_eq : ∀ s : State, s.indirectStep m = s.setPair .hl (s.hl + d)

theorem stepsHlBy_hlInc : StepsHlBy .hlInc 1#16 := ⟨fun _ => rfl, fun _ => rfl⟩

theorem stepsHlBy_hlDec : StepsHlBy .hlDec (-1#16) :=
  ⟨fun _ => rfl, fun s => congrArg (s.setPair .hl) (BitVec.sub_eq_add_neg ..)⟩

section
variable (s : State) {m : Indirect} {d : Word}

/-- `LD A,(HL+)` and `LD A,(HL-)` (R216, R218). -/
theorem exists_next_ldAIndirect (h : StepsHlBy m d) :
    ∃ t, exec (.ldAIndirect m) s = .next t ∧ t.a = s.read s.hl ∧ t.hl = s.hl + d ∧ WritesOnly 1 [.a, .h, .l] [] s t := by
  have hexec : exec (.ldAIndirect m) s =
      .next (((s.past 1).setReg .a (s.read s.hl)).setPair .hl (s.hl + d)) := by
    rw [exec_ldAIndirect, loadAIndirect, h.addr_eq, h.step_eq]
    rfl
  exact ⟨_, hexec, rfl, State.setPair_hl_hl _ _, (writesOnly_setReg s 0 .a _).setHl _⟩

/-- `LD (HL+),A` and `LD (HL-),A` (R217, R219). -/
theorem exists_next_ldIndirectA (h : StepsHlBy m d) (hm : Memory.wf s.mem = true) :
    ∃ t, exec (.ldIndirectA m) s = .next t ∧ t.read s.hl = storedByte s s.hl s.a ∧ t.hl = s.hl + d ∧
      WritesOnly 1 [.h, .l] [s.hl] s t := by
  have hexec : exec (.ldIndirectA m) s = .next (((s.past 1).write s.hl s.a).setPair .hl (s.hl + d)) := by
    rw [exec_ldIndirectA, storeIndirectA, h.addr_eq, h.step_eq]
    rfl
  obtain ⟨hread, -⟩ := past_write s 0 hm s.hl s.a
  exact ⟨_, hexec, hread, State.setPair_hl_hl _ _, (writesOnly_write s 0 hm s.hl s.a).setHl _⟩

end

end Sys2Proof.Machine

open Sys2Proof Sys2Proof.Machine

/-- Settles O31: each load is one write of its destination after its bytes. -/
theorem registerLoadsCopyTheByte : Obligations.RegisterLoadsCopyTheByte := fun s x y n =>
  ⟨exists_next_of_setReg (exec_ldRegReg s x y), exists_next_of_setReg (exec_ldRegImm s x n),
    exists_next_of_setReg (exec_ldRegMem s x)⟩

/-- Settles O32: each store is one write at `HL` after its bytes. -/
theorem storesThroughHlWriteTheByte : Obligations.StoresThroughHlWriteTheByte := fun s y n hm =>
  ⟨exists_next_of_write hm (exec_ldMemReg s y), exists_next_of_write hm (exec_ldMemHlN s n)⟩

/-- Settles O33: in each form `A` takes the byte at the form's address. -/
theorem accumulatorLoadsReadTheirAddress : Obligations.AccumulatorLoadsReadTheirAddress := by
  intro s nn n form hform
  simp only [List.mem_cons, List.not_mem_nil, or_false] at hform
  obtain rfl | rfl | rfl | rfl | rfl := hform
  · exact exists_next_of_setReg (r := .a) (v := s.read s.bc) (exec_ldAIndirect s .bc)
  · exact exists_next_of_setReg (r := .a) (v := s.read s.de) (exec_ldAIndirect s .de)
  · exact exists_next_of_setReg (exec_ldAMemNn s nn)
  · exact exists_next_of_setReg (exec_ldhAMemC s)
  · exact exists_next_of_setReg (exec_ldhAMemN s n)

/-- Settles O34: in each form `A` is stored at the form's address. -/
theorem accumulatorStoresWriteTheirAddress : Obligations.AccumulatorStoresWriteTheirAddress := by
  intro s nn n form hm hform
  simp only [List.mem_cons, List.not_mem_nil, or_false] at hform
  obtain rfl | rfl | rfl | rfl | rfl := hform
  · exact exists_next_of_write hm (exec_ldIndirectA s .bc)
  · exact exists_next_of_write hm (exec_ldIndirectA s .de)
  · exact exists_next_of_write hm (exec_ldMemNnA s nn)
  · exact exists_next_of_write hm (exec_ldhMemCA s)
  · exact exists_next_of_write hm (exec_ldhMemNA s n)

/-- Settles O35: the access at the old `HL`, then the step of `HL`, for both steps. -/
theorem hlSteppingFormsMoveHlByOne : Obligations.HlSteppingFormsMoveHlByOne := by
  intro s load store d hm hform
  simp only [List.mem_cons, List.not_mem_nil, or_false, Prod.mk.injEq] at hform
  obtain ⟨rfl, rfl, rfl⟩ | ⟨rfl, rfl, rfl⟩ := hform
  · exact ⟨exists_next_ldAIndirect s stepsHlBy_hlInc, exists_next_ldIndirectA s stepsHlBy_hlInc hm⟩
  · exact ⟨exists_next_ldAIndirect s stepsHlBy_hlDec, exists_next_ldIndirectA s stepsHlBy_hlDec hm⟩

/-- Settles O4: the decoder computes each of the nine instructions from its bytes. -/
theorem wordsOfTheEncodingDecode : Obligations.WordsOfTheEncodingDecode :=
  ⟨rfl, rfl, rfl, rfl, rfl, rfl, rfl, rfl, rfl⟩
end

section
/-! SUPPORT. The 16-bit loads and the stack (R231 to R236): a write of a pair after the instruction's bytes, the two bytes of `SP`
one above the other, and the push and the pop of a word, with the halves of the pairs of table `r16stk`. -/

namespace Sys2Proof.Machine

open Sys2Proof

/-! ## Pairs and their halves -/

theorem State.setPair_pair (s : State) (p : Pair16) (w : Word) : (s.setPair p w).pair p = w := by
  cases p with
  | sp => rfl
  | bc | de | hl => exact joinBytes_halves w

/-- The register that is the high half of `qq` (R23, R94). -/
def State.stkHigh (s : State) (q : StkPair) : Byte :=
  match q with
  | .bc => s.b
  | .de => s.d
  | .hl => s.h
  | .af => s.a

/-- The register that is the low half of `qq` (R23, R94). -/
def State.stkLow (s : State) (q : StkPair) : Byte :=
  match q with
  | .bc => s.c
  | .de => s.e
  | .hl => s.l
  | .af => s.f

section
variable (s : State) (q : StkPair) (w : Word)

theorem State.stk_eq_joinBytes : s.stk q = joinBytes (s.stkHigh q) (s.stkLow q) := by cases q <;> rfl

theorem State.hiByte_stk : hiByte (s.stk q) = s.stkHigh q := by rw [State.stk_eq_joinBytes, hiByte_joinBytes]

theorem State.loByte_stk : loByte (s.stk q) = s.stkLow q := by rw [State.stk_eq_joinBytes, loByte_joinBytes]

theorem State.setStk_stkHigh : (s.setStk q w).stkHigh q = hiByte w := by cases q <;> rfl

theorem State.setStk_stkLow : (s.setStk q w).stkLow q = if q = .af then loByte w &&& 0xF0#8 else loByte w := by
  cases q <;> rfl

/-- Masking the low byte of a word is masking the word with ones above it. -/
theorem joinBytes_mask_low : joinBytes (hiByte w) (loByte w &&& 0xF0#8) = w &&& 0xFFF0#16 := by
  calc joinBytes (hiByte w) (loByte w &&& 0xF0#8)
    _ = joinBytes (hiByte w &&& 0xFF#8) (loByte w &&& 0xF0#8) := by
      rw [show (0xFF#8 : Byte) = BitVec.allOnes 8 from rfl, BitVec.and_allOnes]
    _ = joinBytes (hiByte w) (loByte w) &&& joinBytes 0xFF#8 0xF0#8 := BitVec.and_append.symm
    _ = w &&& 0xFFF0#16 := by rw [joinBytes_halves]; rfl

/-- `AF` takes a word masked with `0xFFF0`, every other pair takes the word (R21, R23). -/
theorem State.setStk_stk : (s.setStk q w).stk q = if q = .af then w &&& 0xFFF0#16 else w := by
  rw [State.stk_eq_joinBytes, State.setStk_stkHigh, State.setStk_stkLow]
  split
  · exact joinBytes_mask_low w
  · exact joinBytes_halves w

end

/-! ## `LD rr,nn`, `LD SP,HL` and `LD (nn),SP` -/

/-- One write of a pair after an instruction's bytes. -/
theorem past_setPair (s : State) (n : Nat) (p : Pair16) (w : Word) :
    ((s.past (n + 1)).setPair p w).pair p = w ∧
      (p ≠ .sp → ((s.past (n + 1)).setPair p w).sp = s.sp) ∧
      ((s.past (n + 1)).setPair p w).pc = pcPast (n + 1) s ∧ ((s.past (n + 1)).setPair p w).f = s.f ∧
      SameIme s ((s.past (n + 1)).setPair p w) ∧ Frame (pairHalves p) [] s ((s.past (n + 1)).setPair p w) := by
  refine ⟨State.setPair_pair _ p w, fun hp => ?_, ?_, by simp, ⟨by simp, by simp⟩, ?_⟩
  · rw [State.setPair_sp, if_neg hp, State.past_sp]
  · rw [State.setPair_pc, past_pc_eq]
  · exact ((Frame.past s n).mono (List.nil_subset _) (List.Subset.refl _)).setPair p w (List.Subset.refl _)

/-- A store behind an instruction's other writes. -/
theorem WritesOnly.write {len : Nat} {regs : List Reg8} {addrs : List Word} {s t : State}
    (h : WritesOnly len regs addrs s t) (x : Word) (v : Byte) : WritesOnly len regs (addrs ++ [x]) s (t.write x v) := by
  obtain ⟨hpc, hsp, hf, ⟨hime, hsched⟩, hframe⟩ := h
  have hwide : Frame regs (addrs ++ [x]) s t := hframe.mono (List.Subset.refl _) (List.subset_append_left _ _)
  exact ⟨hpc, hsp, hf, ⟨hime, hsched⟩, hwide.write x v (List.mem_append_right _ (List.mem_singleton.mpr rfl))⟩

/-- After two stores at different addresses, each address reads as its own byte stored. -/
theorem State.write_write_read (s t : State) (hk : t.key1 = s.key1) (hm : Memory.wf t.mem = true) {x y : Word}
    (hxy : x ≠ y) (v w : Byte) :
    ((t.write x v).write y w).read x = storedByte s x v ∧ ((t.write x v).write y w).read y = storedByte s y w := by
  have hspeed : (t.write x v).key1.map (·.doubleSpeed) = s.key1.map (·.doubleSpeed) := by
    rw [State.write_doubleSpeed, hk]
  constructor
  · rw [State.write_read_other _ _ hxy, State.write_read_stored s t hk hm]
  · exact State.write_read_stored_speed s _ hspeed (t.write_wf hm x v) y w

/-! ## `PUSH qq` and `POP qq` -/

/-- A push after an instruction's bytes. -/
theorem past_pushWord (s : State) (n : Nat) (hm : Memory.wf s.mem = true) (w : Word) :
    ((s.past (n + 1)).pushWord w).sp = s.sp - 2#16 ∧
      ((s.past (n + 1)).pushWord w).read (s.sp - 1#16) = storedByte s (s.sp - 1#16) (hiByte w) ∧
      ((s.past (n + 1)).pushWord w).read (s.sp - 2#16) = storedByte s (s.sp - 2#16) (loByte w) ∧
      ((s.past (n + 1)).pushWord w).pc = pcPast (n + 1) s ∧ ((s.past (n + 1)).pushWord w).f = s.f ∧
      SameIme s ((s.past (n + 1)).pushWord w) ∧
      Frame [] [s.sp - 1#16, s.sp - 2#16] s ((s.past (n + 1)).pushWord w) := by
  have hsp : (s.past (n + 1)).sp = s.sp := s.past_sp _
  have hm' : Memory.wf (s.past (n + 1)).mem = true := by rwa [State.past_mem]
  have hhigh := State.pushWord_read_high s (s.past (n + 1)) (s.past_key1 _) hm' w
  have hlow := State.pushWord_read_low s (s.past (n + 1)) (s.past_key1 _) hm' w
  rw [hsp] at hhigh hlow
  refine ⟨?_, hhigh, hlow, ?_, by simp, ⟨by simp, by simp⟩, ?_⟩
  · rw [State.pushWord_sp, hsp, word_sub_sub]
  · rw [State.pushWord_pc, past_pc_eq]
  · have hwide : Frame [] [s.sp - 1#16, s.sp - 2#16] s (s.past (n + 1)) :=
      (Frame.past s n).mono (List.Subset.refl _) (List.nil_subset _)
    exact hwide.pushWord w (by simp) (by simp)

/-- The word on top of the stack after `PUSH qq` is the pair, when its two bytes are not KEY1's. -/
theorem topWord_pushPair (s : State) (q : StkPair) (hm : Memory.wf s.mem = true) (h1 : s.isKey1 (s.sp - 1#16) = false)
    (h2 : s.isKey1 (s.sp - 2#16) = false) : (pushPair q s).topWord = s.stk q :=
  State.topWord_pushWord (s.past 1) (s.stk q) (by rwa [State.past_mem]) (by rwa [State.past_isKey1, State.past_sp])
    (by rwa [State.past_isKey1, State.past_sp])

section
variable (s : State) (q : StkPair)

/-- The pair after `POP qq`: the word on top of the stack, masked for `AF`. -/
theorem popPair_stk : (popPair q s).stk q = if q = .af then s.topWord &&& 0xFFF0#16 else s.topWord :=
  State.setStk_stk ..

theorem popPair_sp : (popPair q s).sp = s.sp + 2#16 := by
  rw [popPair, State.setStk_sp, State.dropWord_sp, State.past_sp, word_add_add]

/-- What `POP qq` reads and where to, and what it leaves (R235, R236). -/
theorem popPair_spec :
    (popPair q s).stkHigh q = s.read (s.sp + 1#16) ∧
      (popPair q s).stkLow q = (if q = .af then s.read s.sp &&& 0xF0#8 else s.read s.sp) ∧
      (q ≠ .af → (popPair q s).f = s.f) ∧ (popPair q s).pc = pcPast 1 s ∧ SameIme s (popPair q s) ∧
      Frame (stkHalves q) [] s (popPair q s) := by
  unfold popPair
  refine ⟨?_, ?_, fun hq => ?_, ?_, ⟨by simp, by simp⟩, ?_⟩
  · rw [State.setStk_stkHigh, State.topWord, hiByte_joinBytes]
  · rw [State.setStk_stkLow, State.topWord, loByte_joinBytes]
  · rw [State.setStk_f, if_neg hq, State.dropWord_f, State.past_f]
  · rw [State.setStk_pc, State.dropWord_pc, past_one_pc_eq]
  · exact ((Frame.past s 0).dropWord.mono (List.nil_subset _) (List.Subset.refl _)).setStk q _ (List.Subset.refl _)

end

end Sys2Proof.Machine

open Sys2Proof Sys2Proof.Machine

/-- Settles O36: each load is one write of its pair after its bytes, and `SP` is a pair. -/
theorem pairLoadsTakeTheWord : Obligations.PairLoadsTakeTheWord := by
  intro s p nn
  obtain ⟨hsp, -, hpc, hf, hime, hframe⟩ := past_setPair s 0 .sp s.hl
  exact ⟨⟨_, exec_ldPairImm s p nn, past_setPair s 2 p nn⟩, ⟨_, exec_ldSpHl s, hsp, hpc, hf, hime, hframe⟩⟩

/-- Settles O37: two stores after the instruction's bytes, at addresses that differ even where `nn + 1` wraps. -/
theorem storeSpWritesLowByteFirst : Obligations.StoreSpWritesLowByteFirst := by
  intro s nn hm
  have hne : nn ≠ nn + 1#16 := by bv_omega
  obtain ⟨hlow, hhigh⟩ :=
    State.write_write_read s (s.past 3) (s.past_key1 3) (by rwa [State.past_mem]) hne (loByte s.sp) (hiByte s.sp)
  exact ⟨_, exec_ldMemNnSp s nn, hlow, hhigh, (writesOnly_write s 2 hm nn (loByte s.sp)).write (nn + 1#16) (hiByte s.sp)⟩

/-- Settles O38: a push of the pair's word, whose bytes are the pair's halves. -/
theorem pushWritesThePairBelowSp : Obligations.PushWritesThePairBelowSp := by
  intro s q hm
  have hpush := past_pushWord s 0 hm (s.stk q)
  rw [State.hiByte_stk, State.loByte_stk] at hpush
  refine ⟨_, exec_push s q, ?_⟩
  cases q <;> exact hpush

/-- Settles O39: what is read goes to the pair's halves, one equation for each. -/
theorem popReadsThePairAtSp : Obligations.PopReadsThePairAtSp := by
  intro s q
  refine ⟨_, exec_pop s q, popPair_sp s q, ?_⟩
  have hpop := popPair_spec s q
  cases q <;> exact hpop

/-- Settles O40: the pop reads the word on top of the stack, which after the push is the pair. -/
theorem popAfterPushGivesThePair : Obligations.PopAfterPushGivesThePair := by
  intro s q q' hm h1 h2
  obtain ⟨hsp, -⟩ : (pushPair q s).sp = s.sp - 2#16 ∧ _ := past_pushWord s 0 hm (s.stk q)
  refine ⟨_, _, exec_push s q, exec_pop _ q', ?_, ?_⟩
  · rw [popPair_sp, hsp, BitVec.sub_add_cancel]
  · rw [popPair_stk, topWord_pushPair s q hm h1 h2]
end

section
/-! SUPPORT. 8-bit arithmetic (R250 to R282): an instruction that writes the flags and one register or one byte; the operations of
table `alu`, `INC`, `DEC` and `DAA` in natural-number arithmetic; and the correction of `DAA` in decimal digits. -/

namespace Sys2Proof.Machine

open Sys2Proof

/-! ## What an instruction that writes the flags leaves of the state -/

/-- From `s` to `t` an instruction of `len` bytes has moved `PC` past itself, has applied the flags `k` and has written no more
than `regs` and `addrs`: `SP`, the enables and the rest of the frame are as before. -/
def FlagsAndFrame (len : Nat) (k : FlagTuple) (regs : List Reg8) (addrs : List Word) (s t : State) : Prop :=
  HasFlags t (k.z.getD s.fZ) (k.n.getD s.fN) (k.h.getD s.fH) (k.c.getD s.fC) ∧ t.pc = pcPast len s ∧ t.sp = s.sp ∧
    SameIme s t ∧ Frame regs addrs s t

section
variable (s : State) (n : Nat) (k : FlagTuple)

theorem flagsAndFrame_setFlags : FlagsAndFrame (n + 1) k [] [] s ((s.past (n + 1)).setFlags k) := by
  refine ⟨hasFlags_of_setFlags k s (by simp), ?_, by simp, ⟨by simp, by simp⟩, (Frame.past s n).setFlags k⟩
  rw [State.setFlags_pc, past_pc_eq]

theorem State.setReg_setFlags (r : Reg8) (v : Byte) : (s.setReg r v).setFlags k = (s.setFlags k).setReg r v := by
  cases r <;> rfl

end

section
variable {s t : State} {len : Nat} {k : FlagTuple}

/-- A write of a register behind the flags. -/
theorem FlagsAndFrame.setReg (h : FlagsAndFrame len k [] [] s t) (r : Reg8) (v : Byte) :
    FlagsAndFrame len k [r] [] s (t.setReg r v) := by
  obtain ⟨hflags, hpc, hsp, ⟨hime, hsched⟩, hframe⟩ := h
  have hwide : Frame [r] [] s t := hframe.mono (List.nil_subset _) (List.Subset.refl _)
  have hflags' : HasFlags (t.setReg r v) (k.z.getD s.fZ) (k.n.getD s.fN) (k.h.getD s.fH) (k.c.getD s.fC) := by
    simpa [HasFlags] using hflags
  exact ⟨hflags', by simpa, by simpa, ⟨by simpa, by simpa⟩, hwide.setReg r v (List.mem_singleton.mpr rfl)⟩

/-- A store behind the flags. -/
theorem FlagsAndFrame.write (h : FlagsAndFrame len k [] [] s t) (x : Word) (v : Byte) :
    FlagsAndFrame len k [] [x] s (t.write x v) := by
  obtain ⟨hflags, hpc, hsp, ⟨hime, hsched⟩, hframe⟩ := h
  have hwide : Frame [] [x] s t := hframe.mono (List.Subset.refl _) (List.nil_subset _)
  exact ⟨hflags, hpc, hsp, ⟨hime, hsched⟩, hwide.write x v (List.mem_singleton.mpr rfl)⟩

end

/-! ## An instruction that writes the flags and one byte -/

section
variable {s : State} {n : Nat} {i : Instr} {v : Byte} {k : FlagTuple}

theorem exists_next_of_setFlags (h : exec i s = .next ((s.past (n + 1)).setFlags k)) :
    ∃ t, exec i s = .next t ∧ FlagsAndFrame (n + 1) k [] [] s t :=
  ⟨_, h, flagsAndFrame_setFlags s n k⟩

theorem exists_next_of_setFlags_setReg {r : Reg8} (h : exec i s = .next (((s.past (n + 1)).setFlags k).setReg r v)) :
    ∃ t, exec i s = .next t ∧ t.reg r = v ∧ FlagsAndFrame (n + 1) k [r] [] s t :=
  ⟨_, h, by rw [State.setReg_reg, if_pos rfl], (flagsAndFrame_setFlags s n k).setReg r v⟩

/-- The register and the flags by their values. -/
theorem exists_next_of_setFlags_setReg_toNat {r : Reg8} {m : Nat} {k' : FlagTuple}
    (h : exec i s = .next (((s.past (n + 1)).setFlags k).setReg r v)) (hv : v.toNat = m) (hk : k = k') :
    ∃ t, exec i s = .next t ∧ (t.reg r).toNat = m ∧ FlagsAndFrame (n + 1) k' [r] [] s t := by
  subst hv hk
  obtain ⟨t, hexec, hreg, hrest⟩ := exists_next_of_setFlags_setReg h
  exact ⟨t, hexec, congrArg BitVec.toNat hreg, hrest⟩

/-- The byte stored, with the flags by their values. -/
theorem exists_next_of_setFlags_write (hm : Memory.wf s.mem = true) {x : Word} {k' : FlagTuple}
    (h : exec i s = .next (((s.past (n + 1)).setFlags k).write x v)) (hk : k = k') :
    ∃ t, exec i s = .next t ∧ t.read x = storedByte s x v ∧ FlagsAndFrame (n + 1) k' [] [x] s t := by
  subst hk
  refine ⟨_, h, ?_, (flagsAndFrame_setFlags s n k).write x v⟩
  exact State.write_read_stored s _ (s.past_key1 _) (by simpa using hm) x v

end

/-! ## The operations of table `alu` as natural numbers -/

section
variable (a b : Byte) (cin : Bool)

theorem toNat_sbc8_eq_mod : (sbc8 a b cin).1.toNat = (512 + a.toNat - b.toNat - cin.toNat) % 256 := by
  have h := toNat_sbc8 a b cin
  have hc := cin.toNat_le
  omega

theorem sbc8_flags_eq_mod :
    (sbc8 a b cin).2 = ⟨some (decide ((512 + a.toNat - b.toNat - cin.toNat) % 256 = 0)), some true,
      some (decide (a.toNat % 16 < b.toNat % 16 + cin.toNat)), some (decide (a.toNat < b.toNat + cin.toNat))⟩ := by
  rw [sbc8_flags, ← toNat_sbc8, ← toNat_sbc8_eq_mod]
  simp only [Int.natCast_eq_zero]

/-- Without a borrow in, one 256 is enough to keep the difference a natural number. -/
theorem sub_value_eq : (512 + a.toNat - b.toNat - false.toNat) % 256 = (256 + a.toNat - b.toNat) % 256 := by
  rw [Bool.toNat_false]
  omega

theorem toNat_sub8 : (sub8 a b).1.toNat = (256 + a.toNat - b.toNat) % 256 := by
  rw [← sbc8_false, toNat_sbc8_eq_mod, sub_value_eq]

theorem sub8_flags :
    (sub8 a b).2 = ⟨some (decide ((256 + a.toNat - b.toNat) % 256 = 0)), some true,
      some (decide (a.toNat % 16 < b.toNat % 16)), some (decide (a.toNat < b.toNat))⟩ := by
  rw [← sbc8_false, sbc8_flags_eq_mod, sub_value_eq]
  rfl

/-- The flags of the bitwise operations (R127): Z by the value of the result, H given. -/
theorem logic_flags {res : Byte} {m : Nat} (hres : res.toNat = m) (h : Bool) :
    FlagTuple.mk (some (res == 0#8)) (some false) (some h) (some false) =
      ⟨some (decide (m = 0)), some false, some h, some false⟩ := by
  rw [beq_zero_of_toNat hres]

/-- The byte in `A` after an operation of table `alu` (R122 to R127). -/
theorem toNat_aluApply (op : AluOp) : (aluApply op a b cin).1.toNat = aluWritten op a b cin := by
  cases op with
  | add => exact toNat_adc8 a b false
  | adc => exact toNat_adc8 a b cin
  | sub => exact toNat_sub8 a b
  | sbc => exact toNat_sbc8_eq_mod a b cin
  | and => exact BitVec.toNat_and ..
  | xor => exact BitVec.toNat_xor ..
  | or => exact BitVec.toNat_or ..
  | cp => rfl

/-- The flags of an operation of table `alu` (R122 to R127). -/
theorem aluApply_flags (op : AluOp) :
    (aluApply op a b cin).2 = ⟨some (decide (aluValue op a b cin = 0)), some (aluSubtracts op),
      some (aluHalf op a b cin), some (aluCarry op a b cin)⟩ := by
  cases op with
  | add => exact adc8_flags a b false
  | adc => exact adc8_flags a b cin
  | sub | cp => exact sub8_flags a b
  | sbc => exact sbc8_flags_eq_mod a b cin
  | and => exact logic_flags (BitVec.toNat_and ..) true
  | xor => exact logic_flags (BitVec.toNat_xor ..) false
  | or => exact logic_flags (BitVec.toNat_or ..) false

end

/-- An operation of table `alu` after an instruction's bytes, by its values. -/
theorem exists_next_of_alu {s : State} {n : Nat} {i : Instr} {op : AluOp} {b : Byte}
    (h : exec i s = .next ((s.past (n + 1)).alu op b)) :
    ∃ t, exec i s = .next t ∧ t.a.toNat = aluWritten op s.a b s.fC ∧ AluFlags op s.a b s.fC t ∧
      t.pc = pcPast (n + 1) s ∧ t.sp = s.sp ∧ SameIme s t ∧ Frame [.a] [] s t := by
  rw [State.alu, State.past_a, State.past_fC, State.setReg_setFlags] at h
  exact exists_next_of_setFlags_setReg_toNat h (toNat_aluApply s.a b s.fC op) (aluApply_flags s.a b s.fC op)

/-! ## Increment, decrement and the adjustments as natural numbers -/

theorem toNat_lowNibble (v : Byte) : (v &&& 0x0F#8).toNat = v.toNat % 16 := by
  rw [BitVec.toNat_and]
  exact Nat.and_two_pow_sub_one_eq_mod v.toNat 4

/-- A test of the low nibble, by its value. -/
theorem lowNibble_beq (v w : Byte) : (v &&& 0x0F#8 == w) = decide (v.toNat % 16 = w.toNat) := by
  rw [beq_eq_decide, decide_eq_decide, ← BitVec.toNat_inj, toNat_lowNibble]

section
variable (v : Byte)

theorem toNat_inc8 : (inc8 v).1.toNat = (v.toNat + 1) % 256 := BitVec.toNat_add ..

theorem toNat_dec8 : (dec8 v).1.toNat = (v.toNat + 255) % 256 := by
  rw [Nat.add_comm]
  exact BitVec.toNat_sub ..

theorem inc8_flags :
    (inc8 v).2 = ⟨some (decide (v.toNat = 255)), some false, some (decide (v.toNat % 16 = 15)), none⟩ := by
  have hz : (v + 1#8 == 0#8) = decide (v.toNat = 255) := by
    refine (beq_zero_of_toNat (toNat_inc8 v)).trans ?_
    rw [decide_eq_decide]
    omega
  rw [inc8, hz, lowNibble_beq]
  rfl

theorem dec8_flags :
    (dec8 v).2 = ⟨some (decide (v.toNat = 1)), some true, some (decide (v.toNat % 16 = 0)), none⟩ := by
  have hz : (v - 1#8 == 0#8) = decide (v.toNat = 1) := by
    refine (beq_zero_of_toNat (toNat_dec8 v)).trans ?_
    rw [decide_eq_decide]
    omega
  rw [dec8, hz, lowNibble_beq]
  rfl

theorem cpl8_fst : (cpl8 v).1 = ~~~v := BitVec.xor_allOnes

end

/-! ## `DAA`: the correction, for any statement of its two tests -/

section
variable {a : Byte} {n h c : Bool} {low high : Prop} [Decidable low] [Decidable high]

theorem daa_low_test (hlow : (h = true ∨ n = false ∧ a.toNat % 16 > 9) ↔ low) :
    (h || (!n && decide ((a &&& 0x0F#8).toNat > 0x09))) = decide low := by
  rw [toNat_lowNibble, Bool.eq_iff_iff, decide_eq_true_iff, ← hlow]
  simp

theorem daa_high_test (hhigh : (c = true ∨ n = false ∧ a.toNat > 0x99) ↔ high) :
    (c || (!n && decide (a.toNat > 0x99))) = decide high := by
  rw [Bool.eq_iff_iff, decide_eq_true_iff, ← hhigh]
  simp

/-- 6 for the low digit and 0x60 for the high digit (R142). -/
theorem toNat_daaCorrection (hlow : (h = true ∨ n = false ∧ a.toNat % 16 > 9) ↔ low)
    (hhigh : (c = true ∨ n = false ∧ a.toNat > 0x99) ↔ high) :
    (daaCorrection a n h c).toNat = (if low then 6 else 0) + (if high then 0x60 else 0) := by
  rw [daaCorrection, daa_low_test hlow, daa_high_test hhigh]
  by_cases hl : low <;> by_cases hh : high <;> simp [hl, hh]

theorem toNat_daa8 (hlow : (h = true ∨ n = false ∧ a.toNat % 16 > 9) ↔ low)
    (hhigh : (c = true ∨ n = false ∧ a.toNat > 0x99) ↔ high) :
    (daa8 a n h c).1.toNat =
      if n then (256 + a.toNat - ((if low then 6 else 0) + (if high then 0x60 else 0))) % 256
      else (a.toNat + ((if low then 6 else 0) + (if high then 0x60 else 0))) % 256 := by
  have hcorr := toNat_daaCorrection hlow hhigh
  rw [← hcorr, daa8]
  cases n with
  | false => exact BitVec.toNat_add ..
  | true =>
    have hlt := (daaCorrection a true h c).isLt
    rw [if_pos rfl, if_pos rfl, BitVec.toNat_sub]
    omega

theorem daa8_flags (hhigh : (c = true ∨ n = false ∧ a.toNat > 0x99) ↔ high) :
    (daa8 a n h c).2 = ⟨some (decide ((daa8 a n h c).1.toNat = 0)), none, some false, some (decide high)⟩ := by
  rw [← beq_zero_of_toNat rfl, ← daa_high_test hhigh]
  rfl

end

/-- `DAA` by its values (R142, R279), for any statement of its two tests. -/
theorem exists_next_daa (s : State) {low high : Prop} [Decidable low] [Decidable high]
    (hlow : (s.fH = true ∨ s.fN = false ∧ s.a.toNat % 16 > 9) ↔ low)
    (hhigh : (s.fC = true ∨ s.fN = false ∧ s.a.toNat > 0x99) ↔ high) :
    ∃ t, exec .daa s = .next t ∧
      (t.a.toNat =
          (if s.fN then (256 + s.a.toNat - ((if low then 6 else 0) + (if high then 0x60 else 0))) % 256
          else (s.a.toNat + ((if low then 6 else 0) + (if high then 0x60 else 0))) % 256) ∧
        HasFlags t (decide (t.a.toNat = 0)) s.fN false (decide high)) ∧
      t.pc = pcPast 1 s ∧ t.sp = s.sp ∧ SameIme s t ∧ Frame [.a] [] s t := by
  have hexec := exec_daa s
  rw [adjustA, State.setReg_setFlags, daa8_flags hhigh] at hexec
  obtain ⟨t, ht, ha, hflags, hrest⟩ := exists_next_of_setFlags_setReg hexec
  rw [← ha] at hflags
  exact ⟨t, ht, ⟨(congrArg BitVec.toNat ha).trans (toNat_daa8 hlow hhigh), hflags⟩, hrest⟩

/-! ## Decimal digits -/

theorem exists_digits {x : Nat} (hx : x < 100) : ∃ p q, p < 10 ∧ q < 10 ∧ x = 10 * p + q :=
  ⟨x / 10, x % 10, by omega, by omega, by omega⟩

theorem toNat_bcd {p q : Nat} (hp : p < 10) (hq : q < 10) : (bcd (10 * p + q)).toNat = 16 * p + q := by
  have htens : (10 * p + q) / 10 = p := by omega
  rw [bcd, BitVec.toNat_ofNat, htens, Nat.mod_eq_of_lt hp]
  omega

/-- A byte whose value has the digits of `m` in its nibbles is the BCD byte of `m`. -/
theorem eq_bcd_of_digits {w : Byte} {m p q : Nat} (hp : p < 10) (hq : q < 10) (hm : m = 10 * p + q)
    (hw : w.toNat = 16 * p + q) : w = bcd m := by
  subst hm
  exact BitVec.eq_of_toNat_eq (hw.trans (toNat_bcd hp hq).symm)

section
variable {a b w : Byte} {p q u v : Nat} (hp : p < 10) (hq : q < 10) (hu : u < 10) (hv : v < 10)
  (ha : a.toNat = 16 * p + q) (hb : b.toNat = 16 * u + v)
include hq hv ha hb

/-- After the sum of two BCD bytes the low test says that the low digits carry. -/
theorem daa_low_test_of_bcd_add :
    (a.toNat % 16 + b.toNat % 16 > 15 ∨ (a.toNat + b.toNat) % 256 % 16 > 9) ↔ 9 < q + v := by
  rw [ha, hb]
  omega

/-- After the sum of two BCD bytes the high test says that the numbers' sum carries. -/
theorem daa_high_test_of_bcd_add :
    (a.toNat + b.toNat > 255 ∨ (a.toNat + b.toNat) % 256 > 0x99) ↔ 99 < 10 * p + q + (10 * u + v) := by
  rw [ha, hb]
  omega

include hp hu

/-- The corrected sum of two BCD bytes, with or without a carry from either digit. -/
theorem eq_bcd_of_corrected_sum
    (hw : w.toNat = ((a.toNat + b.toNat) % 256 +
      ((if 9 < q + v then 6 else 0) + (if 99 < 10 * p + q + (10 * u + v) then 0x60 else 0))) % 256) :
    w = bcd ((10 * p + q + (10 * u + v)) % 100) := by
  rw [ha, hb] at hw
  split_ifs at hw with hlow hhigh hhigh
  · refine eq_bcd_of_digits (p := p + u + 1 - 10) (q := q + v - 10) ?_ ?_ ?_ ?_ <;> omega
  · refine eq_bcd_of_digits (p := p + u + 1) (q := q + v - 10) ?_ ?_ ?_ ?_ <;> omega
  · refine eq_bcd_of_digits (p := p + u - 10) (q := q + v) ?_ ?_ ?_ ?_ <;> omega
  · refine eq_bcd_of_digits (p := p + u) (q := q + v) ?_ ?_ ?_ ?_ <;> omega

/-- The corrected difference of two BCD bytes, with or without a borrow from either digit. -/
theorem eq_bcd_of_corrected_difference
    (hw : w.toNat = (256 + (256 + a.toNat - b.toNat) % 256 -
      ((if q < v then 6 else 0) + (if 10 * p + q < 10 * u + v then 0x60 else 0))) % 256) :
    w = bcd ((100 + (10 * p + q) - (10 * u + v)) % 100) := by
  rw [ha, hb] at hw
  split_ifs at hw with hlow hhigh hhigh
  · refine eq_bcd_of_digits (p := 9 + p - u) (q := 10 + q - v) ?_ ?_ ?_ ?_ <;> omega
  · refine eq_bcd_of_digits (p := p - u - 1) (q := 10 + q - v) ?_ ?_ ?_ ?_ <;> omega
  · refine eq_bcd_of_digits (p := 10 + p - u) (q := q - v) ?_ ?_ ?_ ?_ <;> omega
  · refine eq_bcd_of_digits (p := p - u) (q := q - v) ?_ ?_ ?_ ?_ <;> omega

end

section
variable {s : State} {p q u v : Nat} (hp : p < 10) (hq : q < 10) (hu : u < 10) (hv : v < 10)
  (ha : s.a.toNat = 16 * p + q) (hb : s.b.toNat = 16 * u + v)
include hp hq hu hv ha hb

/-- `ADD A,B` of two BCD bytes, then `DAA`: its two tests are the carries of the digits. -/
theorem exists_next_add_daa :
    ∃ t w, exec (.aluReg .add .b) s = .next t ∧ exec .daa t = .next w ∧
      w.a = bcd ((10 * p + q + (10 * u + v)) % 100) ∧ w.fC = decide (99 < 10 * p + q + (10 * u + v)) := by
  obtain ⟨t, hadd, hsum, ⟨-, hn, hh, hc, -⟩, -⟩ := exists_next_of_alu (exec_aluReg s .add .b)
  replace hsum : t.a.toNat = (s.a.toNat + s.b.toNat) % 256 := hsum
  replace hn : t.fN = false := hn
  replace hh : t.fH = decide (s.a.toNat % 16 + s.b.toNat % 16 > 15) := hh
  replace hc : t.fC = decide (s.a.toNat + s.b.toNat > 255) := hc
  have hlow : (t.fH = true ∨ t.fN = false ∧ t.a.toNat % 16 > 9) ↔ 9 < q + v := by
    simpa only [hn, hh, hsum, decide_eq_true_iff, true_and] using daa_low_test_of_bcd_add hq hv ha hb
  have hhigh : (t.fC = true ∨ t.fN = false ∧ t.a.toNat > 0x99) ↔ 99 < 10 * p + q + (10 * u + v) := by
    simpa only [hn, hc, hsum, decide_eq_true_iff, true_and] using daa_high_test_of_bcd_add hq hv ha hb
  obtain ⟨w, hdaa, ⟨hval, -, -, -, hcarry, -⟩, -⟩ := exists_next_daa t hlow hhigh
  rw [hn, hsum] at hval
  exact ⟨t, w, hadd, hdaa, eq_bcd_of_corrected_sum hp hq hu hv ha hb hval, hcarry⟩

/-- `SUB A,B` of two BCD bytes, then `DAA`: its two tests are the borrows of the digits. -/
theorem exists_next_sub_daa :
    ∃ t w, exec (.aluReg .sub .b) s = .next t ∧ exec .daa t = .next w ∧
      w.a = bcd ((100 + (10 * p + q) - (10 * u + v)) % 100) ∧ w.fC = decide (10 * p + q < 10 * u + v) := by
  obtain ⟨t, hsub, hdif, ⟨-, hn, hh, hc, -⟩, -⟩ := exists_next_of_alu (exec_aluReg s .sub .b)
  replace hdif : t.a.toNat = (256 + s.a.toNat - s.b.toNat) % 256 := hdif
  replace hn : t.fN = true := hn
  replace hh : t.fH = decide (s.a.toNat % 16 < s.b.toNat % 16) := hh
  replace hc : t.fC = decide (s.a.toNat < s.b.toNat) := hc
  have hlow : (t.fH = true ∨ t.fN = false ∧ t.a.toNat % 16 > 9) ↔ q < v := by
    simp only [hn, hh, ha, hb, decide_eq_true_iff, reduceCtorEq, false_and, or_false]
    omega
  have hhigh : (t.fC = true ∨ t.fN = false ∧ t.a.toNat > 0x99) ↔ 10 * p + q < 10 * u + v := by
    simp only [hn, hc, ha, hb, decide_eq_true_iff, reduceCtorEq, false_and, or_false]
    omega
  obtain ⟨w, hdaa, ⟨hval, -, -, -, hcarry, -⟩, -⟩ := exists_next_daa t hlow hhigh
  rw [hn, hdif] at hval
  exact ⟨t, w, hsub, hdaa, eq_bcd_of_corrected_difference hp hq hu hv ha hb hval, hcarry⟩

end

end Sys2Proof.Machine

open Sys2Proof Sys2Proof.Machine

/-- Settles O42: in every form the operation of table `alu` on the form's operand, after the instruction's bytes. -/
theorem aluFormsComputeResultAndFlags : Obligations.AluFormsComputeResultAndFlags := fun s op r n =>
  ⟨exists_next_of_alu (exec_aluReg s op r), exists_next_of_alu (exec_aluMem s op), exists_next_of_alu (exec_aluImm s op n)⟩

/-- Settles O43: `inc8` and `dec8` of the register, whose flags keep C. -/
theorem incAndDecRegisterKeepCarry : Obligations.IncAndDecRegisterKeepCarry := fun s r =>
  ⟨exists_next_of_setFlags_setReg_toNat (exec_incReg s r) (toNat_inc8 _) (inc8_flags _),
    exists_next_of_setFlags_setReg_toNat (exec_decReg s r) (toNat_dec8 _) (dec8_flags _)⟩

/-- Settles O44: `inc8` and `dec8` of the byte at `HL`, stored back there. -/
theorem incAndDecMemoryWriteBack : Obligations.IncAndDecMemoryWriteBack := fun s hm =>
  ⟨exists_next_of_setFlags_write hm (exec_incMemHl s) (inc8_flags _),
    exists_next_of_setFlags_write hm (exec_decMemHl s) (dec8_flags _)⟩

/-- Settles O45: the correction with its two tests as the table states them. -/
theorem daaAppliesTheCorrectionTable : Obligations.DaaAppliesTheCorrectionTable := fun s =>
  exists_next_daa s Iff.rfl Iff.rfl

/-- Settles O46: each writes its flags; `CPL` writes `A` too. -/
theorem complementAndCarryInstructions : Obligations.ComplementAndCarryInstructions := by
  intro s
  have hcpl := exec_cpl s
  rw [complementA, State.setReg_setFlags, cpl8_fst] at hcpl
  exact ⟨exists_next_of_setFlags_setReg hcpl, exists_next_of_setFlags (exec_scf s), exists_next_of_setFlags (exec_ccf s)⟩

/-- Settles O30: the two bytes by their digits. -/
theorem daaCorrectsBcdSumsAndDifferences : Obligations.DaaCorrectsBcdSumsAndDifferences := by
  intro s x y hx hy
  obtain ⟨p, q, hp, hq, hxd⟩ := exists_digits x.isLt
  obtain ⟨u, v, hu, hv, hyd⟩ := exists_digits y.isLt
  have ha : s.a.toNat = 16 * p + q := by rw [hx, hxd, toNat_bcd hp hq]
  have hb : s.b.toNat = 16 * u + v := by rw [hy, hyd, toNat_bcd hu hv]
  rw [hxd, hyd]
  exact ⟨exists_next_add_daa hp hq hu hv ha hb, exists_next_sub_daa hp hq hu hv ha hb⟩
end

section
/-! SUPPORT. 16-bit arithmetic (R237, R301 to R304): an instruction that writes the flags and one pair; the sign extension and the
flags of `addsp` and `add16` in natural-number arithmetic. -/

namespace Sys2Proof.Machine

open Sys2Proof

/-! ## An instruction that writes a pair, with or without the flags -/

theorem State.setFlags_setPair (s : State) (k : FlagTuple) (p : Pair16) (w : Word) :
    (s.setFlags k).setPair p w = (s.setPair p w).setFlags k := by
  cases p <;> rfl

/-- The pair and the flags by their values; `SP` is kept unless it is the pair. -/
theorem exists_next_of_setFlags_setPair {s : State} {n : Nat} {i : Instr} {k k' : FlagTuple} {p : Pair16} {v w : Word}
    (h : exec i s = .next (((s.past (n + 1)).setFlags k).setPair p v)) (hv : v = w) (hk : k = k') :
    ∃ t, exec i s = .next t ∧ t.pair p = w ∧ (p ≠ .sp → t.sp = s.sp) ∧
      HasFlags t (k'.z.getD s.fZ) (k'.n.getD s.fN) (k'.h.getD s.fH) (k'.c.getD s.fC) ∧ t.pc = pcPast (n + 1) s ∧
      SameIme s t ∧ Frame (pairHalves p) [] s t := by
  subst hv hk
  obtain ⟨hpair, hsp, hpc, hf, hime, hframe⟩ := past_setPair s n p v
  rw [State.setFlags_setPair] at h
  have hflags := hasFlags_of_setFlags k s (u := ((s.past (n + 1)).setPair p v).setFlags k) (by rw [State.setFlags_f, hf])
  exact ⟨_, h, hpair, hsp, hflags, hpc, hime, hframe.setFlags k⟩

/-- A write of a pair after the instruction's bytes, without flags. -/
theorem exists_next_of_setPair {s : State} {n : Nat} {i : Instr} {p : Pair16} {w : Word}
    (h : exec i s = .next ((s.past (n + 1)).setPair p w)) :
    ∃ t, exec i s = .next t ∧ t.pair p = w ∧ (p ≠ .sp → t.sp = s.sp) ∧ t.f = s.f ∧ t.pc = pcPast (n + 1) s ∧
      SameIme s t ∧ Frame (pairHalves p) [] s t := by
  obtain ⟨hpair, hsp, hpc, hf, hime, hframe⟩ := past_setPair s n p w
  exact ⟨_, h, hpair, hsp, hf, hpc, hime, hframe⟩

/-! ## `addsp` and `add16` in the terms of the rules -/

/-- `sext_16` (R148) is the sign extension of the byte. -/
theorem sext16_eq_signExtend (e : Byte) : sext16 e = e.signExtend 16 := by
  have hlt := e.isLt
  apply BitVec.eq_of_toNat_eq
  rw [BitVec.toNat_signExtend, BitVec.toNat_setWidth, BitVec.msb_eq_decide, sext16]
  by_cases he : e.toNat < 128
  · simp [he]
  · have hge : 2 ^ 7 ≤ e.toNat := Nat.not_lt.mp he
    simp only [he, hge, decide_true, if_true, if_false, BitVec.toNat_ofNat]
    omega

/-- A mask of `m` low ones is the remainder modulo `2 ^ m`. -/
theorem toNat_and_lowMask {width m : Nat} (v mask : BitVec width) (hmask : mask.toNat = 2 ^ m - 1) :
    (v &&& mask).toNat = v.toNat % 2 ^ m := by
  rw [BitVec.toNat_and, hmask, Nat.and_two_pow_sub_one_eq_mod]

theorem addsp_fst (sp : Word) (e : Byte) : (addsp sp e).1 = sp + e.signExtend 16 :=
  congrArg (sp + ·) (sext16_eq_signExtend e)

theorem addsp_flags (sp : Word) (e : Byte) :
    (addsp sp e).2 = ⟨some false, some false, some (decide (sp.toNat % 16 + e.toNat % 16 > 15)),
      some (decide (sp.toNat % 256 + e.toNat > 255))⟩ := by
  rw [addsp, toNat_and_lowMask (m := 4) sp _ rfl, toNat_and_lowMask (m := 4) e _ rfl,
    toNat_and_lowMask (m := 8) sp _ rfl]
  rfl

theorem toNat_add16 (v w : Word) : (add16 v w).1.toNat = (v.toNat + w.toNat) % 65536 := BitVec.toNat_add ..

theorem add16_flags (v w : Word) :
    (add16 v w).2 = ⟨none, some false, some (decide (v.toNat % 4096 + w.toNat % 4096 > 4095)),
      some (decide (v.toNat + w.toNat > 65535))⟩ := by
  rw [add16, toNat_and_lowMask (m := 12) v _ rfl, toNat_and_lowMask (m := 12) w _ rfl]
  rfl

end Sys2Proof.Machine

open Sys2Proof Sys2Proof.Machine

/-- Settles O41: both forms write the sum and the flags of `addsp`, one to `SP` and one to `HL`. -/
theorem spDisplacementAddsSignedByte : Obligations.SpDisplacementAddsSignedByte := by
  intro s e
  have hfst := addsp_fst s.sp e
  have hflags := addsp_flags s.sp e
  obtain ⟨t, hadd, hsum, -, hrest⟩ := exists_next_of_setFlags_setPair (exec_addSpE s e) hfst hflags
  obtain ⟨u, hload, hhl, hsp, hrest'⟩ := exists_next_of_setFlags_setPair (exec_ldHlSpE s e) hfst hflags
  exact ⟨⟨t, hadd, hsum, hrest⟩, ⟨u, hload, hhl, hsp (by decide), hrest'⟩⟩

/-- Settles O47: `ADD HL,rr` writes the sum and the flags of `add16`; `INC rr` and `DEC rr` write their pair and no flag. -/
theorem pairArithmeticResultsAndFlags : Obligations.PairArithmeticResultsAndFlags := by
  intro s p
  refine ⟨?_, exists_next_of_setPair (exec_incPair s p), exists_next_of_setPair (exec_decPair s p)⟩
  obtain ⟨t, hadd, hhl, hsp, hflags, hpc, hime, hframe⟩ :=
    exists_next_of_setFlags_setPair (exec_addHlPair s p) rfl (add16_flags s.hl (s.pair p))
  have hsum : t.hl.toNat = (s.hl.toNat + (s.pair p).toNat) % 65536 :=
    (congrArg BitVec.toNat hhl).trans (toNat_add16 s.hl (s.pair p))
  exact ⟨t, hadd, hsum, hflags, hpc, hsp (by decide), hime, hframe⟩
end

section
/-! SUPPORT. Rotates and bit operations (R130 to R140, R310 to R332): the bit rotated out and the flags of table `rot` and of `BIT`
in the terms of the rules; a rotate of `A` is the rotate of that table but for Z. -/

namespace Sys2Proof.Machine

open Sys2Proof

/-! ## Results and flags of the operations -/

theorem rotShift_snd (o : RotOp) (v : Byte) (cin : Bool) : (rotShift o v cin).2 = rotOut o v := by
  cases o <;> rfl

theorem rotApply_eq (o : RotOp) (v : Byte) (cin : Bool) :
    rotApply o v cin = ((rotShift o v cin).1,
      ⟨some (decide ((rotShift o v cin).1 = 0#8)), some false, some false, some (rotOut o v)⟩) := by
  rw [rotApply, rotShift_snd, beq_eq_decide]

theorem accShift_eq_rotShift (o : AccRot) (v : Byte) (cin : Bool) : accShift o v cin = rotShift (accRotOp o) v cin := by
  cases o <;> rfl

theorem accApply_eq (o : AccRot) (v : Byte) (cin : Bool) :
    accApply o v cin = ((rotShift (accRotOp o) v cin).1,
      ⟨some false, some false, some false, some (rotOut (accRotOp o) v)⟩) := by
  rw [accApply, accShift_eq_rotShift, rotShift_snd]

theorem bitFlags_eq (n : Fin 8) (v : Byte) : bitFlags n v = ⟨some (!v.getLsbD n), some false, some true, none⟩ := by
  rw [bitFlags, beq_false]

/-! ## The instructions -/

section
variable (s : State)

/-- A rotate of `A` writes the result of its entry of table `rot`, with Z cleared (R139). -/
theorem exec_accRot_eq (o : AccRot) :
    exec (.accRot o) s =
      .next (((s.past 1).setFlags ⟨some false, some false, some false, some (rotOut (accRotOp o) s.a)⟩).setReg .a
        (rotShift (accRotOp o) s.a s.fC).1) := by
  rw [exec_accRot, rotateA, State.setReg_setFlags, accApply_eq]

theorem exec_bitReg (n : Fin 8) (r : Reg8) :
    exec (.bitReg n r) s = .next ((s.past 2).setFlags ⟨some (!(s.reg r).getLsbD n), some false, some true, none⟩) := by
  rw [← bitFlags_eq]
  exact exec_bitLoc s n (.reg r)

theorem exec_bitMem (n : Fin 8) :
    exec (.bitMem n) s = .next ((s.past 2).setFlags ⟨some (!(s.read s.hl).getLsbD n), some false, some true, none⟩) := by
  rw [← bitFlags_eq]
  exact exec_bitLoc s n .memHl

theorem exec_rotReg (o : RotOp) (r : Reg8) :
    exec (.rotReg o r) s =
      .next (((s.past 2).setFlags ⟨some (decide ((rotShift o (s.reg r) s.fC).1 = 0#8)), some false, some false,
        some (rotOut o (s.reg r))⟩).setReg r (rotShift o (s.reg r) s.fC).1) := by
  have h := exec_rotLoc s o (.reg r)
  rw [rotateLoc, State.rotate, rotApply_eq] at h
  exact h

/-- A rotate or shift of a register (R310). -/
theorem exists_next_rotReg (o : RotOp) (r : Reg8) :
    ∃ t, exec (.rotReg o r) s = .next t ∧ IsRotated o (s.reg r) s.fC (t.reg r) ∧
      FlagsAndFrame 2 ⟨some (decide (t.reg r = 0#8)), some false, some false, some (rotOut o (s.reg r))⟩ [r] [] s t := by
  obtain ⟨t, hexec, hres, hrest⟩ := exists_next_of_setFlags_setReg (exec_rotReg s o r)
  have hbits : IsRotated o (s.reg r) s.fC (t.reg r) := hres ▸ rotShift_isRotated o (s.reg r) s.fC
  rw [← hres] at hrest
  exact ⟨t, hexec, hbits, hrest⟩

/-- A rotate or shift of the byte at `HL`, which takes the result (R310). -/
theorem exists_next_rotMem (o : RotOp) (hm : Memory.wf s.mem = true) :
    ∃ t res, exec (.rotMem o) s = .next t ∧ IsRotated o (s.read s.hl) s.fC res ∧ t.read s.hl = storedByte s s.hl res ∧
      FlagsAndFrame 2 ⟨some (decide (res = 0#8)), some false, some false, some (rotOut o (s.read s.hl))⟩ [] [s.hl] s t := by
  have hflags := congrArg Prod.snd (rotApply_eq o (s.read s.hl) s.fC)
  obtain ⟨t, hexec, hread, hrest⟩ := exists_next_of_setFlags_write hm (exec_rotLoc s o .memHl) hflags
  exact ⟨t, _, hexec, rotShift_isRotated o _ _, hread, hrest⟩

end

end Sys2Proof.Machine

open Sys2Proof Sys2Proof.Machine

/-- Settles O48: the rotate of `A` is its entry of table `rot`, bit by bit, with Z cleared. -/
theorem accumulatorRotatesNeverSetZ : Obligations.AccumulatorRotatesNeverSetZ := by
  intro s o
  obtain ⟨t, hexec, ha, hrest⟩ := exists_next_of_setFlags_setReg (exec_accRot_eq s o)
  have hbits : IsRotated (accRotOp o) s.a s.fC (t.reg .a) := ha ▸ rotShift_isRotated (accRotOp o) s.a s.fC
  exact ⟨t, hexec, hbits, hrest⟩

/-- Settles O49: the operation of table `rot` on the register or on the byte at `HL`, whose bits are those of `rotBit`. -/
theorem cbRotatesAndShiftsMoveEveryBit : Obligations.CbRotatesAndShiftsMoveEveryBit := fun s o r =>
  ⟨exists_next_rotReg s o r, exists_next_rotMem s o⟩

/-- Settles O50: `BIT` writes the flags and nothing else. -/
theorem bitTestsComplementIntoZ : Obligations.BitTestsComplementIntoZ := fun s n r =>
  ⟨exists_next_of_setFlags (exec_bitReg s n r), exists_next_of_setFlags (exec_bitMem s n)⟩
end

section
/-! SUPPORT. Control transfers (R350 to R361): the conditional node by its condition, and what a jump, a call and a return leave of
the state when they come after an instruction's bytes. -/

namespace Sys2Proof.Machine

open Sys2Proof

/-! ## Conditions -/

section
variable {s : State} {k : Cond} (t : State) (go : State → State)

theorem State.cond_iff : s.cond k = true ↔ CondHolds k s := by
  cases k <;> simp [State.cond, CondHolds]

theorem State.branch_of_condHolds (h : CondHolds k s) : t.branch (s.cond k) go = go t :=
  if_pos (State.cond_iff.mpr h)

theorem State.branch_of_not_condHolds (h : ¬ CondHolds k s) : t.branch (s.cond k) go = t :=
  if_neg (mt State.cond_iff.mp h)

end

/-! ## One transfer after an instruction's bytes -/

section
variable (s : State) (n : Nat)

theorem past_jump (x : Word) : (s.past (n + 1)).jump x = { s with pc := x, haltBug := false } := by
  induction n with
  | zero => rfl
  | succ n ih => exact ih

/-- A relative target counts from past the displacement byte (R354). -/
theorem past_two_jumpBy (e : Byte) :
    (s.past 2).jumpBy e = { s with pc := pcPast 2 s + e.signExtend 16, haltBug := false } := by
  rw [State.jumpBy, past_two_pc_eq, sext16_eq_signExtend, past_jump]

theorem past_one_returnTo (enable : Bool) :
    (s.past 1).returnTo enable = { s with
      pc := s.read (s.sp + 1#16) ++ s.read s.sp
      sp := s.sp + 2#16
      ime := if enable then true else s.ime
      haltBug := false } := by
  rw [← word_add_add]
  rfl

/-- The word on top of the stack after a call is the return address, when its two bytes are not KEY1's. -/
theorem topWord_past_call (hm : Memory.wf s.mem = true) (h1 : s.isKey1 (s.sp - 1#16) = false)
    (h2 : s.isKey1 (s.sp - 2#16) = false) (x : Word) : ((s.past (n + 1)).call x).topWord = pcPast (n + 1) s := by
  have hpush : ((s.past (n + 1)).pushWord (s.past (n + 1)).pc).topWord = (s.past (n + 1)).pc :=
    State.topWord_pushWord _ _ (by rwa [State.past_mem]) (by rwa [State.past_isKey1, State.past_sp])
      (by rwa [State.past_isKey1, State.past_sp])
  rw [← past_pc_eq, ← hpush]
  exact State.topWord_congr _ _ rfl rfl rfl

end

/-! ## An instruction that is one such transfer -/

section
variable {s : State} {n : Nat} {i : Instr} {x : Word}

/-- A call: the address past the instruction goes to the two bytes below `SP`, and `PC` to the target (R356). -/
theorem exists_next_of_call (hm : Memory.wf s.mem = true) (h : exec i s = .next ((s.past (n + 1)).call x)) :
    ∃ t, exec i s = .next t ∧ t.pc = x ∧ t.sp = s.sp - 2#16 ∧
      t.read (s.sp - 1#16) = storedByte s (s.sp - 1#16) ((pcPast (n + 1) s).extractLsb' 8 8) ∧
      t.read (s.sp - 2#16) = storedByte s (s.sp - 2#16) ((pcPast (n + 1) s).extractLsb' 0 8) ∧ t.f = s.f ∧ SameIme s t ∧
      Frame [] [s.sp - 1#16, s.sp - 2#16] s t := by
  have hpush := past_pushWord s n hm (s.past (n + 1)).pc
  rw [past_pc_eq] at hpush
  obtain ⟨hsp, hhigh, hlow, -, hf, hime, hframe⟩ := hpush
  rw [State.call, past_pc_eq] at h
  exact ⟨_, h, rfl, hsp, (State.jump_read ..).trans hhigh, (State.jump_read ..).trans hlow, hf, hime, hframe.jump x⟩

/-- A call, then `RET` at any address (R358). -/
theorem exists_next_of_call_ret (hm : Memory.wf s.mem = true) (h1 : s.isKey1 (s.sp - 1#16) = false)
    (h2 : s.isKey1 (s.sp - 2#16) = false) (h : exec i s = .next ((s.past (n + 1)).call x)) (pc' : Word) :
    ∃ t u, exec i s = .next t ∧ exec .ret { t with pc := pc' } = .next u ∧ u.pc = pcPast (n + 1) s ∧ u.sp = s.sp := by
  refine ⟨_, _, h, exec_ret _, ?_, ?_⟩
  · exact topWord_past_call s n hm h1 h2 x
  · calc (s.past (n + 1)).sp - 1#16 - 1#16 + 1#16 + 1#16
      _ = (s.past (n + 1)).sp := by rw [word_sub_sub, word_add_add, BitVec.sub_add_cancel]
      _ = s.sp := s.past_sp _

end

end Sys2Proof.Machine

open Sys2Proof Sys2Proof.Machine

/-- Settles O52: each form is one jump after its bytes, the conditional ones where the condition holds. -/
theorem jumpsSetPc : Obligations.JumpsSetPc := by
  intro s k nn e form h
  simp only [List.mem_cons, List.not_mem_nil, or_false] at h
  obtain (rfl | rfl | rfl) | ⟨hk, rfl | rfl⟩ | ⟨hk, rfl | rfl⟩ := h
  · rw [exec_jpNn, jumpTo, past_jump]
  · rw [exec_jpHl, jumpHl, past_jump]; rfl
  · rw [exec_jrE, jumpRelative, past_two_jumpBy]
  · rw [exec_jpCond, jumpIf, State.branch_of_condHolds _ _ hk, past_jump]
  · rw [exec_jrCond, jumpRelativeIf, State.branch_of_condHolds _ _ hk, past_two_jumpBy]
  · rw [exec_jpCond, jumpIf, State.branch_of_not_condHolds _ _ hk, past_three_eq]
  · rw [exec_jrCond, jumpRelativeIf, State.branch_of_not_condHolds _ _ hk, past_two_eq]

/-- Settles O53: each form is one call after its bytes, `CALL cc,nn` where the condition holds. -/
theorem callsPushTheReturnAddress : Obligations.CallsPushTheReturnAddress := by
  intro s k nn y form hm
  refine ⟨fun h => ?_, fun hk => ?_⟩
  · simp only [List.mem_cons, List.not_mem_nil, or_false] at h
    obtain (rfl | rfl) | ⟨hk, rfl⟩ := h
    · exact exists_next_of_call hm (exec_callNn s nn)
    · exact exists_next_of_call hm (exec_rst s y)
    · have hexec := exec_callCond s k nn
      rw [callIf, State.branch_of_condHolds _ _ hk] at hexec
      exact exists_next_of_call hm hexec
  · rw [exec_callCond, callIf, State.branch_of_not_condHolds _ _ hk, past_three_eq]

/-- Settles O54: each form is one return after its byte, `RET cc` where the condition holds. -/
theorem returnsPopPc : Obligations.ReturnsPopPc := by
  intro s k
  refine ⟨?_, ?_, fun hk => ?_⟩
  · rintro i (rfl | ⟨hk, rfl⟩)
    · rw [exec_ret, returnFrom, past_one_returnTo]; rfl
    · rw [exec_retCond, returnIf, State.branch_of_condHolds _ _ hk, past_one_returnTo]; rfl
  · rw [exec_reti, returnEnabling, past_one_returnTo]; rfl
  · rw [exec_retCond, returnIf, State.branch_of_not_condHolds _ _ hk, past_one_eq]

/-- Settles O55: the return reads the word on top of the stack, which after the call is the return address. -/
theorem returnAfterCallComesBack : Obligations.ReturnAfterCallComesBack := by
  intro s nn pc' y call hm h1 h2 hcall
  simp only [List.mem_cons, List.not_mem_nil, or_false] at hcall
  obtain rfl | rfl := hcall
  · exact exists_next_of_call_ret hm h1 h2 (exec_callNn s nn) pc'
  · exact exists_next_of_call_ret hm h1 h2 (exec_rst s y) pc'
end

section
/-! SUPPORT. The system instructions (R370 to R377): what `HALT` and `STOP` choose, and the control state that every other
instruction leaves as it is. -/

namespace Sys2Proof.Machine

open Sys2Proof

/-! ## `HALT`, `STOP` and `EI` by their conditions -/

section
variable {s : State}

/-- `HALT` halts where interrupts are enabled or none is pending (R372). -/
theorem State.halt_of_enabled_or_idle (h : s.ime = true ∨ s.pend = 0#8) : s.halt = { s with haltActive := true } := by
  have hchoice : (s.ime || s.pend == 0#8) = true := by simpa using h
  simp [State.halt, hchoice]

/-- `HALT` sets the halt bug where interrupts are disabled and one is pending (R372). -/
theorem State.halt_of_disabled_pending (hime : s.ime = false) (hpend : s.pend ≠ 0#8) : s.halt = { s with haltBug := true } := by
  have hchoice : (s.ime || s.pend == 0#8) = false := by simpa [hime] using hpend
  simp [State.halt, hchoice]

/-- `STOP` switches the speed where the switch is prepared (R373). -/
theorem State.stop_of_prepared {d : Bool} (h : s.key1 = some ⟨d, true⟩) :
    s.stop = { s with key1 := some ⟨!d, false⟩ } := by
  rw [State.stop, h]
  rfl

/-- `STOP` changes nothing on base hardware and where no switch is prepared (R373). -/
theorem State.stop_of_unprepared {d : Bool} (h : s.key1 = none ∨ s.key1 = some ⟨d, false⟩) : s.stop = s := by
  have hswitch : s.key1.map Key1.switch = s.key1 := by obtain h | h := h <;> rw [h] <;> rfl
  rw [State.stop, hswitch]

theorem State.ei_eq : s.ei = { s with ime := s.ime || s.imeSched, imeSched := true } := by
  rw [State.ei, Bool.if_true_left, Bool.decide_eq_true, Bool.or_comm]

end

/-! ## The control state -/

/-- `IME`, `IME_SCHED`, `DOUBLE_SPEED`, `PIPE` and `SCRATCH` are the same in both states. -/
structure SameControl (s t : State) : Prop where
  ime : t.ime = s.ime
  imeSched : t.imeSched = s.imeSched
  speed : t.key1.map (·.doubleSpeed) = s.key1.map (·.doubleSpeed)
  pipe : t.pipe = s.pipe
  scratch : t.scratch = s.scratch

theorem SameControl.trans {s t u : State} (h : SameControl s t) (k : SameControl t u) : SameControl s u :=
  ⟨k.ime.trans h.ime, k.imeSched.trans h.imeSched, k.speed.trans h.speed, k.pipe.trans h.pipe,
    k.scratch.trans h.scratch⟩

/-! ### The shared operations keep it -/

theorem SameControl.past (s : State) (n : Nat) : SameControl s (s.past n) :=
  ⟨s.past_ime n, s.past_imeSched n, by rw [State.past_key1], s.past_pipe n, s.past_scratch n⟩

section
variable {s t : State} (h : SameControl s t)
include h

theorem SameControl.setFlags (k : FlagTuple) : SameControl s (t.setFlags k) := h.trans ⟨rfl, rfl, rfl, rfl, rfl⟩

theorem SameControl.setReg (r : Reg8) (v : Byte) : SameControl s (t.setReg r v) :=
  h.trans ⟨t.setReg_ime r v, t.setReg_imeSched r v, by rw [State.setReg_key1], t.setReg_pipe r v, t.setReg_scratch r v⟩

theorem SameControl.setPair (p : Pair16) (w : Word) : SameControl s (t.setPair p w) :=
  h.trans ⟨t.setPair_ime p w, t.setPair_imeSched p w, by rw [State.setPair_key1], t.setPair_pipe p w,
    t.setPair_scratch p w⟩

theorem SameControl.setStk (q : StkPair) (w : Word) : SameControl s (t.setStk q w) :=
  h.trans ⟨t.setStk_ime q w, t.setStk_imeSched q w, by rw [State.setStk_key1], t.setStk_pipe q w,
    t.setStk_scratch q w⟩

theorem SameControl.write (x : Word) (v : Byte) : SameControl s (t.write x v) :=
  h.trans ⟨rfl, rfl, t.write_doubleSpeed x v, rfl, rfl⟩

theorem SameControl.setLoc (x : Loc8) (v : Byte) : SameControl s (t.setLoc x v) := by
  cases x with
  | reg r => exact h.setReg r v
  | memHl => exact h.write t.hl v

theorem SameControl.indirectStep (m : Indirect) : SameControl s (t.indirectStep m) := by
  cases m with
  | bc | de => exact h
  | hlInc | hlDec => exact h.setPair .hl _

theorem SameControl.alu (op : AluOp) (b : Byte) : SameControl s (t.alu op b) := (h.setReg ..).setFlags _

theorem SameControl.jump (x : Word) : SameControl s (t.jump x) := h.trans ⟨rfl, rfl, rfl, rfl, rfl⟩

theorem SameControl.pushByte (v : Byte) : SameControl s (t.pushByte v) :=
  SameControl.write (t := { t with sp := t.sp - 1#16 }) (h.trans ⟨rfl, rfl, rfl, rfl, rfl⟩) _ v

theorem SameControl.pushWord (w : Word) : SameControl s (t.pushWord w) := (h.pushByte _).pushByte _

theorem SameControl.dropWord : SameControl s t.dropWord := h.trans ⟨rfl, rfl, rfl, rfl, rfl⟩

theorem SameControl.call (x : Word) : SameControl s (t.call x) := (h.pushWord _).jump x

theorem SameControl.returnTo : SameControl s (t.returnTo false) := h.dropWord.jump t.topWord

theorem SameControl.branch (b : Bool) {go : State → State} (hgo : SameControl s (go t)) :
    SameControl s (t.branch b go) := by
  unfold State.branch
  split
  · exact hgo
  · exact h

theorem SameControl.rotate (o : RotOp) (x : Loc8) : SameControl s (t.rotate o x) := (h.setFlags _).setLoc x _

theorem SameControl.testBit (n : Fin 8) (x : Loc8) : SameControl s (t.testBit n x) := h.setFlags _

theorem SameControl.clearBit (n : Fin 8) (x : Loc8) : SameControl s (t.clearBit n x) := h.setLoc x _

theorem SameControl.raiseBit (n : Fin 8) (x : Loc8) : SameControl s (t.raiseBit n x) := h.setLoc x _

theorem SameControl.cbWork (op2 : Byte) : SameControl s (t.cbWork op2) := by
  unfold State.cbWork
  split
  · exact h.rotate ..
  · exact h.testBit ..
  · exact h.clearBit ..
  · exact h.raiseBit ..

end

/-! ### The instructions that write it -/

/-- Every instruction but five keeps the control state (R31 to R35, R370): its update is made of operations that do. -/
theorem Executes.sameControl {i : Instr} {s t : State} (h : Executes s i t) (hi : i ∉ [.halt, .stop, .di, .ei, .reti]) :
    SameControl s t := by
  have hpast := SameControl.past s
  cases h with
  | ldRegReg | ldRegImm | ldRegMem | ldAMemNn | ldhAMemC | ldhAMemN => exact (hpast _).setReg ..
  | ldMemReg | ldMemHlN | ldMemNnA | ldhMemCA | ldhMemNA => exact (hpast _).write ..
  | ldAIndirect => exact ((hpast _).setReg ..).indirectStep _
  | ldIndirectA => exact ((hpast _).write ..).indirectStep _
  | ldPairImm | ldSpHl | incPair | decPair => exact (hpast _).setPair ..
  | ldMemNnSp => exact ((hpast _).write ..).write ..
  | push => exact (hpast _).pushWord _
  | pop => exact (hpast _).dropWord.setStk ..
  | ldHlSpE | addHlPair | addSpE => exact ((hpast _).setFlags _).setPair ..
  | aluReg | aluMem | aluImm => exact (hpast _).alu ..
  | incReg | decReg => exact ((hpast _).setFlags _).setReg ..
  | incMemHl | decMemHl => exact ((hpast _).setFlags _).write ..
  | daa | cpl | accRot => exact ((hpast _).setReg ..).setFlags _
  | scf | ccf => exact (hpast _).setFlags _
  | rotLoc => exact (hpast _).rotate ..
  | bitLoc => exact (hpast _).testBit ..
  | resLoc => exact (hpast _).clearBit ..
  | setLoc => exact (hpast _).raiseBit ..
  | jpNn | jpHl | jrE => exact (hpast _).jump _
  | jpCond | jrCond => exact (hpast _).branch _ ((hpast _).jump _)
  | callNn | rst => exact (hpast _).call _
  | callCond => exact (hpast _).branch _ ((hpast _).call _)
  | ret => exact (hpast _).returnTo
  | retCond => exact (hpast _).branch _ (hpast _).returnTo
  | nop | undefinedOpcode => exact hpast _
  | prefixCb => exact (hpast _).cbWork _
  | halt | stop | di | ei | reti => simp at hi

end Sys2Proof.Machine

open Sys2Proof Sys2Proof.Machine

/-- Settles O22: the five writers of the control state one by one, and every other instruction keeps it. -/
theorem controlStateHasFewWriters : Obligations.ControlStateHasFewWriters := by
  intro i s t h
  have hhalt := (Executes.of_exec h).halt_same
  by_cases hi : i ∈ [.halt, .stop, .di, .ei, .reti]
  · simp only [List.mem_cons, List.not_mem_nil, or_false] at hi
    obtain rfl | rfl | rfl | rfl | rfl := hi
    · cases (exec_halt s).symm.trans h
      simp [haltCore]
    · cases (exec_stop s).symm.trans h
      simp [stopCore]
    · cases (exec_di s).symm.trans h
      simp [disableInterrupts]
    · cases (exec_ei s).symm.trans h
      simp [enableInterrupts]
    · cases (exec_reti s).symm.trans h
      simp [returnEnabling]
  · obtain ⟨hime, hsched, hspeed, hpipe, hscratch⟩ := (Executes.of_exec h).sameControl hi
    exact ⟨fun _ => hime, fun _ => hsched, hhalt, fun _ => hspeed, hpipe, hscratch⟩

/-- Settles O56: `NOP`, then the undefined opcodes. -/
theorem nopAndUndefinedOpcodesOnlyAdvancePc : Obligations.NopAndUndefinedOpcodesOnlyAdvancePc := by
  intro s i hi
  rw [← past_one_eq]
  obtain rfl | hundefined := List.mem_cons.mp hi
  · exact exec_nop s
  · exact exec_undefined s hundefined

/-- Settles O57: the two outcomes of `HALT` past its byte. -/
theorem haltChoosesHaltOrHaltBug : Obligations.HaltChoosesHaltOrHaltBug := by
  intro s
  rw [exec_halt, haltCore]
  refine ⟨fun h => ?_, fun hime hpend => ?_⟩
  · rw [State.halt_of_enabled_or_idle (by rwa [State.past_ime, State.past_pend]), past_one_eq]
  · rw [State.halt_of_disabled_pending (by rwa [State.past_ime]) (by rwa [State.past_pend]), past_one_eq]

/-- Settles O58: the two outcomes of `STOP` past its byte. -/
theorem stopSwitchesSpeedWhenPrepared : Obligations.StopSwitchesSpeedWhenPrepared := by
  intro s d
  rw [exec_stop, stopCore]
  refine ⟨fun h => ?_, fun h => ?_⟩
  · rw [State.stop_of_prepared (by rwa [State.past_key1]), past_one_eq]
  · rw [State.stop_of_unprepared (by rwa [State.past_key1]), past_one_eq]

/-- Settles O59: the two writes of the enables past their byte. -/
theorem diAndEiSetTheEnables : Obligations.DiAndEiSetTheEnables := by
  intro s
  rw [exec_di, disableInterrupts, exec_ei, enableInterrupts, State.ei_eq, past_one_eq]
  exact ⟨rfl, rfl⟩

/-- Settles O60: both rows do the work of the byte read after `0xCB`, past both bytes. -/
theorem prefixRowRunsTheCbTable : Obligations.PrefixRowRunsTheCbTable := fun s op b1 b2 =>
  ⟨⟨_, exec_prefixCb s, exec_cbInstr s _⟩, decode3_ne_prefixCb op b1 b2, decode3_prefix b1 b2⟩
end

section
/-! SUPPORT. The interrupt controller (R400 to R419): the pending set and its priority, the boundary decision, and what a
dispatch and the return from it leave of the state. -/

namespace Sys2Proof.Machine

open Sys2Proof

/-! ## The pending set and its priority -/

theorem getLsbD_allMask (i : Fin 8) : allMask.getLsbD i = decide (i.val < 5) := by
  revert i
  decide

theorem State.getLsbD_pend (s : State) (i : Fin 8) :
    s.pend.getLsbD i = (decide (i.val < 5) && s.iev.getLsbD i && s.ifv.getLsbD i) := by
  rw [State.pend, BitVec.getLsbD_and, BitVec.getLsbD_and, getLsbD_allMask, Bool.and_comm, Bool.and_assoc]

theorem IrqSource.forall_iff {P : IrqSource → Prop} :
    (∀ k, P k) ↔ P .vblank ∧ P .lcdStat ∧ P .timer ∧ P .serial ∧ P .joypad :=
  ⟨fun h => ⟨h _, h _, h _, h _, h _⟩, fun ⟨hv, hl, ht, hs, hj⟩ k => by cases k <;> assumption⟩

/-- Two sources of the same bit number are the same. -/
theorem IrqSource.bit_injective {j k : IrqSource} (h : j.bit = k.bit) : j = k := by
  cases j <;> cases k <;> simp_all [IrqSource.bit]

/-- The source chosen is pending, and no source before it is (R407): each test of the ladder follows those that failed. -/
theorem lowest_of_highestPriority {pend : Byte} {k : IrqSource} (h : highestPriority pend = some k) :
    pend.getLsbD k.bit = true ∧ ∀ j : IrqSource, j.bit < k.bit → pend.getLsbD j.bit = false := by
  unfold highestPriority at h
  rw [IrqSource.forall_iff]
  split_ifs at h <;> cases h <;> simp_all [IrqSource.bit]

/-- A source that is pending makes the controller choose one. -/
theorem exists_highestPriority {pend : Byte} {k : IrqSource} (h : pend.getLsbD k.bit = true) :
    ∃ j, highestPriority pend = some j := by
  unfold highestPriority
  split_ifs with h0 h1 h2 h3 h4
  case neg => cases k <;> contradiction
  all_goals exact ⟨_, rfl⟩

/-- The lowest of the pending bits is the source chosen: both are lowest, so neither is below the other. -/
theorem highestPriority_eq_some_iff (pend : Byte) (k : IrqSource) :
    highestPriority pend = some k ↔
      pend.getLsbD k.bit = true ∧ ∀ j : IrqSource, j.bit < k.bit → pend.getLsbD j.bit = false := by
  refine ⟨lowest_of_highestPriority, fun ⟨hk, hlow⟩ => ?_⟩
  obtain ⟨j, hj⟩ := exists_highestPriority hk
  obtain ⟨hbit, hfirst⟩ := lowest_of_highestPriority hj
  have hle : k.bit ≤ j.bit := not_lt.mp fun hlt => by simp [hlow j hlt] at hbit
  have hge : j.bit ≤ k.bit := not_lt.mp fun hlt => by simp [hfirst k hlt] at hk
  rw [hj, IrqSource.bit_injective (le_antisymm hge hle)]

/-! ## The boundary decision -/

section
variable {s : State}

theorem State.woken_of_running (h : s.haltActive = false) : s.woken = s := by
  rw [State.woken, ← h]

theorem State.boundary_eq_idle (hh : s.haltActive = true) (hp : s.pend = 0#8) : s.boundary = .idle := by
  simp [State.boundary, hh, hp]

theorem State.boundary_eq_dispatch {k : IrqSource} (hi : s.ime = true) (hp : s.pend ≠ 0#8)
    (hk : highestPriority s.pend = some k) : s.boundary = .dispatch k := by
  simp [State.boundary, hi, hp, hk]

variable (hp : s.pipe = none)
include hp

theorem step_of_idle (hb : s.boundary = .idle) : step s = .next s := by
  simp only [step, hp, hb]

theorem step_of_dispatch {k : IrqSource} (hb : s.boundary = .dispatch k) :
    step s = .next (s.woken.takeInterrupt k) := by
  simp only [step, hp, hb]

theorem cycleWithBus_of_idle (hb : s.boundary = .idle) : cycleWithBus s = .next (.internal, s) := by
  simp only [cycleWithBus, hp, hb]

theorem cycleWithBus_of_dispatch {k : IrqSource} (hb : s.boundary = .dispatch k) :
    cycleWithBus s = runRow ⟨.dispatch k, 1⟩ s.woken := by
  simp only [cycleWithBus, hp, hb]

theorem cycleWithBus_of_fetch (hb : s.boundary = .fetch) :
    cycleWithBus s = runRow ⟨.base (s.read s.pc), 1⟩ s.woken := by
  simp only [cycleWithBus, hp, hb, State.woken_read, State.woken_pc]

end

theorem cycles_of_fixed {s : State} (h : cycle s = .next s) (n : Nat) : cycles n s = .next s := by
  induction n with
  | zero => rfl
  | succ n ih => rw [cycles_succ_of_cycle n h, ih]

/-! ## Taking an interrupt -/

theorem IrqSource.vector_eq (k : IrqSource) : k.vector = 0x0040#16 + 8#16 * BitVec.ofNat 16 k.bit := by
  rw [IrqSource.vector, BitVec.ofNat_mul]

section
variable (s : State) (k : IrqSource)

/-- The first row of a dispatch stores on the bus at `IF`, which is not KEY1's address, and clears the enables. -/
theorem State.enterDispatch_eq_write :
    s.enterDispatch k = { s.write ifAddr (s.ifv &&& ~~~(1#8 <<< k.bit)) with ime := false, imeSched := false } := by
  simp [State.enterDispatch, State.write, s.isKey1_of_ne (show ifAddr ≠ key1Addr by decide)]

theorem State.enterDispatch_read (x : Word) :
    (s.enterDispatch k).read x = (s.write ifAddr (s.ifv &&& ~~~(1#8 <<< k.bit))).read x := by
  rw [s.enterDispatch_eq_write]
  exact State.read_congr _ _ rfl rfl x

theorem State.enterDispatch_read_other {x : Word} (h : x ≠ ifAddr) : (s.enterDispatch k).read x = s.read x := by
  rw [s.enterDispatch_read, s.write_read_other _ h]

/-- The bit of the source is cleared in `IF`, and no other (R408). -/
theorem State.enterDispatch_getLsbD_if (hm : Memory.wf s.mem = true) (i : Fin 8) :
    ((s.enterDispatch k).read ifAddr).getLsbD i = ((s.read ifAddr).getLsbD i && decide (i.val ≠ k.bit)) := by
  rw [s.enterDispatch_read, s.write_read_same hm _ (s.isKey1_of_ne (by decide)), BitVec.getLsbD_and, BitVec.getLsbD_not,
    k.getLsbD_mask, decide_eq_true i.isLt, Bool.true_and, decide_not, State.ifv]

theorem State.takeInterrupt_read (x : Word) :
    (s.takeInterrupt k).read x = ((s.enterDispatch k).pushWord s.pc).read x :=
  State.read_congr _ _ rfl rfl x

/-- The pushes of a dispatch change no byte but their two. -/
theorem State.takeInterrupt_read_other {x : Word} (h1 : x ≠ s.sp - 1#16) (h2 : x ≠ s.sp - 2#16) :
    (s.takeInterrupt k).read x = (s.enterDispatch k).read x := by
  rw [s.takeInterrupt_read]
  exact State.pushWord_read_other (s.enterDispatch k) s.pc h1 h2

theorem State.takeInterrupt_read_high (hm : Memory.wf s.mem = true) :
    (s.takeInterrupt k).read (s.sp - 1#16) = storedByte s (s.sp - 1#16) (hiByte s.pc) := by
  rw [s.takeInterrupt_read]
  exact State.pushWord_read_high s (s.enterDispatch k) rfl (s.enterDispatch_wf hm k) s.pc

theorem State.takeInterrupt_read_low (hm : Memory.wf s.mem = true) :
    (s.takeInterrupt k).read (s.sp - 2#16) = storedByte s (s.sp - 2#16) (loByte s.pc) := by
  rw [s.takeInterrupt_read]
  exact State.pushWord_read_low s (s.enterDispatch k) rfl (s.enterDispatch_wf hm k) s.pc

theorem State.takeInterrupt_sp : (s.takeInterrupt k).sp = s.sp - 2#16 := word_sub_sub s.sp

theorem State.takeInterrupt_reg (r : Reg8) : (s.takeInterrupt k).reg r = s.reg r :=
  s.reg_congr _ rfl rfl rfl rfl rfl rfl rfl r

/-- The word on top of the stack after a dispatch is the interrupted `PC`, when its two bytes are not KEY1's. -/
theorem State.takeInterrupt_topWord (hm : Memory.wf s.mem = true) (h1 : s.isKey1 (s.sp - 1#16) = false)
    (h2 : s.isKey1 (s.sp - 2#16) = false) : (s.takeInterrupt k).topWord = s.pc :=
  calc (s.takeInterrupt k).topWord
    _ = ((s.enterDispatch k).pushWord s.pc).topWord := State.topWord_congr _ _ rfl rfl rfl
    _ = s.pc := State.topWord_pushWord _ _ (s.enterDispatch_wf hm k) h1 h2

end

end Sys2Proof.Machine

open Sys2Proof Sys2Proof.Machine

/-- Settles O7: the masks bit by bit, and the lowest pending source. -/
theorem pendingSetAndItsPriority : Obligations.PendingSetAndItsPriority :=
  ⟨fun s i b => ⟨s.getLsbD_pend i, s.pend_congr { s with ime := b } rfl rfl⟩, highestPriority_eq_some_iff,
    highestPriority_eq_none_iff, rfl⟩

/-- Settles O6, by the boundary decision of each row. -/
theorem boundaryDecisionTable : Obligations.BoundaryDecisionTable := by
  refine fun s => ⟨fun hp => ⟨fun hh hpend => ?_, fun hpend hi => ?_, fun hpend hi => ?_, fun hpend hh => ?_⟩,
    fun p hp => cycleWithBus_of_pipe hp⟩
  · have hb := State.boundary_eq_idle hh hpend
    exact ⟨step_of_idle hp hb, cycleWithBus_of_idle hp hb⟩
  · obtain ⟨k, hk⟩ := Option.ne_none_iff_exists'.mp (mt s.highestPriority_pend_eq_none_iff.mp hpend)
    have hb := State.boundary_eq_dispatch hi hpend hk
    exact ⟨k, hk, step_of_dispatch hp hb, cycleWithBus_of_dispatch hp hb⟩
  · have hb := s.boundary_eq_fetch (fun _ => hpend) (by simp [hi])
    exact ⟨step_of_fetch hp hb, cycleWithBus_of_fetch hp hb⟩
  · have hb := s.boundary_eq_fetch (by simp [hh]) (fun _ => hpend)
    rw [step_of_fetch hp hb, cycleWithBus_of_fetch hp hb, State.woken_of_running hh]
    exact ⟨rfl, rfl⟩

/-- Settles O9: the boundary dispatches, and the pushes come after the flag bit is cleared. -/
theorem dispatchPushesPcAndEntersTheVector : Obligations.DispatchPushesPcAndEntersTheVector := by
  intro s k hp hi hpend hk hm
  refine ⟨_, step_of_dispatch hp (State.boundary_eq_dispatch hi hpend hk), k.vector_eq, s.woken.takeInterrupt_sp k,
    rfl, rfl, rfl, rfl, rfl, rfl, rfl, s.woken.takeInterrupt_reg k, s.woken.takeInterrupt_read_high k hm,
    s.woken.takeInterrupt_read_low k hm, fun hif i => ?_, fun x hx => ?_⟩
  · obtain ⟨h1, h2⟩ : ifAddr ≠ s.sp - 1#16 ∧ ifAddr ≠ s.sp - 2#16 := by simpa [ifAddr] using hif
    exact (congrArg (·.getLsbD i) (s.woken.takeInterrupt_read_other k h1 h2)).trans
      (s.woken.enterDispatch_getLsbD_if k hm i)
  · obtain ⟨h0, h1, h2⟩ : x ≠ ifAddr ∧ x ≠ s.sp - 1#16 ∧ x ≠ s.sp - 2#16 := by simpa [ifAddr] using hx
    exact (s.woken.takeInterrupt_read_other k h1 h2).trans (s.woken.enterDispatch_read_other k h0)

/-- Settles O10: `RETI` reads the word on top of the stack, which after the dispatch is the interrupted `PC`. -/
theorem retiUndoesDispatch : Obligations.RetiUndoesDispatch := by
  intro s k hm h1 h2
  rw [exec_reti, returnEnabling, past_one_returnTo]
  have hsp : (s.takeInterrupt k).sp + 2#16 = s.sp := by rw [s.takeInterrupt_sp, BitVec.sub_add_cancel]
  exact ⟨_, rfl, s.takeInterrupt_topWord k hm h1 h2, hsp, rfl, rfl, s.takeInterrupt_reg k⟩
end

section
/-! SUPPORT. The halted CORE, the delay of `EI`, and the halt bug (R410, R414, R416), at a boundary. -/

namespace Sys2Proof.Machine

open Sys2Proof

/-- A running CORE is halted by `HALT` alone, with interrupts enabled or none pending (R33, R372). -/
theorem halt_of_halting {i : Instr} {s t : State} (h : exec i s = .next t) (hs : s.haltActive = false)
    (ht : t.haltActive = true) : i = .halt ∧ (s.ime = true ∨ s.pend = 0#8) := by
  by_cases hi : i = .halt
  · subst hi
    cases (exec_halt s).symm.trans h
    exact ⟨rfl, by simpa [haltCore, hs] using ht⟩
  · obtain ⟨hsame, -⟩ := (Executes.of_exec h).halt_same hi
    simp [hsame, hs] at ht

/-- The retire after a scheduled enable: `IME` is true unless `DI` has cleared the schedule, and only `EI` schedules again
(R181, decision D8). -/
theorem retire_of_imeSched {i : Instr} {s t : State} (h : exec i s = .next t) (hs : s.imeSched = true) :
    (t.retire (commitsEnable i)).ime = decide (i ≠ .di) ∧
      (t.retire (commitsEnable i)).imeSched = decide (i = .ei) := by
  by_cases hi : i ∈ [.di, .ei]
  · simp only [List.mem_cons, List.not_mem_nil, or_false] at hi
    obtain rfl | rfl := hi
    · cases (exec_di s).symm.trans h
      simp [disableInterrupts]
    · cases (exec_ei s).symm.trans h
      simp [enableInterrupts, commitsEnable, hs]
  · obtain ⟨-, hsched, -⟩ := controlStateHasFewWriters i s t h
    obtain ⟨hdi, hei⟩ : i ≠ .di ∧ i ≠ .ei := by simpa using hi
    simp [commitsEnable_eq_decide, hsched hi, hs, hdi, hei]

/-- A running boundary with interrupts disabled runs the instruction at `PC`, whatever is pending. -/
theorem step_of_running {s t : State} (hp : s.pipe = none) (hh : s.haltActive = false) (hi : s.ime = false)
    (ht : exec s.fetchInstr s = .next t) : step s = .next (t.retire (commitsEnable s.fetchInstr)) := by
  rw [step_of_fetch hp (s.boundary_eq_fetch (by simp [hh]) (by simp [hi])), State.woken_of_running hh, runInstr_eq ht]

/-- After the halt bug the opcode of `LD A,n` is its own immediate (R174, R175). -/
theorem fetchInstr_of_haltBug {s : State} (hb : s.haltBug = true) (hop : s.read s.pc = 0x3E#8) :
    s.fetchInstr = .ldRegImm .a 0x3E#8 := by
  rw [State.fetchInstr, s.pcAfterOpcode_of_bug hb, hop]
  rfl

end Sys2Proof.Machine

open Sys2Proof Sys2Proof.Machine

/-- Settles O11: an idle cycle answers the same state, so any number of them does. -/
theorem haltedCoreIdles : Obligations.HaltedCoreIdles := by
  refine ⟨fun s n hp hh hpend => ?_, fun _ _ _ => halt_of_halting, fun _ _ => rfl⟩
  have hb := State.boundary_eq_idle hh hpend
  exact ⟨cycleWithBus_of_idle hp hb, cycles_of_fixed (cycle_idle hp hh hpend) n, step_of_idle hp hb⟩

/-- Settles O12: the boundary fetches, and the retire commits the enable. -/
theorem enableCommitsAfterTheNextInstruction : Obligations.EnableCommitsAfterTheNextInstruction := by
  intro s hp hh hi hs
  obtain ⟨t, ht⟩ := exec_completes s s.fetchInstr
  exact ⟨t, _, ht, step_of_running hp hh hi ht, rfl, rfl, rfl, rfl, t.retire_reg _, rfl, rfl, rfl, rfl,
    retire_of_imeSched ht hs⟩

/-- Settles O13: the instruction fetched is `LD A,0x3E`, whose second byte is at `PC` too. -/
theorem haltBugUsesTheByteTwice : Obligations.HaltBugUsesTheByteTwice := by
  intro s hp hh hi hb hop
  have hexec : exec s.fetchInstr s = .next ((s.past 2).setReg .a 0x3E#8) := by
    rw [fetchInstr_of_haltBug hb hop]
    exact exec_ldRegImm s .a _
  have hpc : (s.past 2).pc = s.pc + 1#16 := by rw [State.past_two_pc, s.pcAfterOpcode_of_bug hb]
  exact ⟨_, step_of_running hp hh hi hexec, rfl, hpc, rfl⟩
end

section
/-! SUPPORT. KEY1's port (R419), and the host's registers (R451, R452). -/

namespace Sys2Proof.Machine

open Sys2Proof

theorem Key1.getLsbD_read (k : Key1) (i : Fin 8) :
    k.read.getLsbD i = if i = 7 then k.doubleSpeed else if i = 0 then k.prepareSwitch else true := by
  obtain ⟨d, p⟩ := k
  revert d p i
  decide

section
variable {s : State}

/-- On the variant a store at KEY1's address is `Key1Write` (R419). -/
theorem State.write_key1Addr {k : Key1} (h : s.key1 = some k) (v : Byte) : s.write key1Addr v = s.key1Write v := by
  have hk : s.isKey1 key1Addr = true := (s.isKey1_iff _).mpr ⟨rfl, by rw [h]; rfl⟩
  rw [State.write, if_pos hk, if_pos hk, State.key1Write]

/-- On base hardware KEY1's address is memory like any other. -/
theorem State.isKey1_of_base (h : s.key1 = none) (x : Word) : s.isKey1 x = false := by
  simp [State.isKey1, h]

theorem State.setRegisters_of_boundary (hp : s.pipe = none) (r : Registers) :
    s.setRegisters r = some { s with
      a := r.a, f := r.f &&& 0xF0#8, b := r.b, c := r.c, d := r.d, e := r.e, h := r.h, l := r.l, sp := r.sp, pc := r.pc } := by
  simp only [State.setRegisters, hp]

theorem State.setRegisters_of_pipe (hp : s.pipe ≠ none) (r : Registers) : s.setRegisters r = none := by
  obtain ⟨p, hsome⟩ := Option.ne_none_iff_exists'.mp hp
  simp only [State.setRegisters, hsome]

end

end Sys2Proof.Machine

open Sys2Proof Sys2Proof.Machine

/-- Settles O25: KEY1's bits one by one; without KEY1 the address is memory's. -/
theorem key1PortReadsAndWrites : Obligations.Key1PortReadsAndWrites := by
  refine ⟨fun s k v i h => ⟨?_, ?_, ?_, (State.write_key1Addr h v).symm⟩, fun s v h hm => ⟨?_, ?_, ?_⟩⟩
  · rw [← k.getLsbD_read i]
    exact congrArg (·.getLsbD i) (s.read_key1 h)
  · exact (State.write_key1Addr h v).trans (by rw [State.key1Write, h]; rfl)
  · rw [State.key1Read, h]
    exact congrArg some (s.read_key1 h).symm
  · exact s.write_read_same hm v (State.isKey1_of_base h _)
  · rw [State.write_key1, State.isKey1_of_base h, if_neg Bool.false_ne_true, h]
  · rw [State.key1Read, h]
    rfl

/-- Settles O14: the reset state is a creation too. -/
theorem creationMeetsTheInvariant : Obligations.CreationMeetsTheInvariant :=
  ⟨fun hasKey1 _ _ hf hh hm => ⟨create_inv hasKey1 hf hh hm, rfl, rfl⟩, create_inv _ rfl rfl rfl, rfl, rfl, rfl, rfl, rfl⟩

/-- Settles O26: the call by what it does at a boundary and elsewhere. -/
theorem hostRegistersRoundTrip : Obligations.HostRegistersRoundTrip := fun _ r =>
  ⟨fun hp => ⟨_, State.setRegisters_of_boundary hp r, rfl, rfl, rfl, rfl, rfl, rfl, rfl, rfl, rfl⟩,
    fun hp => State.setRegisters_of_pipe hp r⟩
end
